-- ==== Sys2Proof/Word.lean ====
section
/-! DEFINITION. The word types of the FL24: bytes, addresses, lines, numbers of windows, requesters, slots, tickets. -/

namespace Sys2Proof

/-- A byte of a frame, a record or a line. -/
abbrev Byte := BitVec 8

/-- A 40-bit byte address in the memory behind the DRAM controller (00_scope, Addresses). -/
abbrev Addr := BitVec 40

/-- A line number: a line address divided by 64. The links carry it without the low 6 bits (R103). -/
abbrev Line := BitVec 34

/-- The 64 bytes of a line: byte `i`, counted from the line address, is bits `8 * i` to `8 * i + 7` (R184). -/
abbrev LineData := BitVec 512

/-- The 64 byte enables of a write; bit `i` enables byte `i` (R103). -/
abbrev Enables := BitVec 64

/-- A requester number, 0 to 63 (R103). -/
abbrev Requester := Fin 64

/-- A tag, 0 to 255 (R103). -/
abbrev Tag := BitVec 8

/-- A window index, 0 to 15 (R1). -/
abbrev WindowIdx := Fin 16

/-- A capture slot number, 0 to 15 (R29). -/
abbrev SlotIdx := Fin 16

/-- A ticket of the memory port: the index of an outstanding-table entry, 0 to 47 (R126, R128). -/
abbrev Ticket := Fin 48

/-- A record sequence number: 32 bits, wrapping (R50). -/
abbrev Seq := BitVec 32

/-- The byte address of a line, as a number (00_scope, Terms). -/
def Line.addr (l : Line) : Nat := l.toNat * 64

end Sys2Proof
end

