-- ==== Sys2Proof/Config.lean ====
section
/-! DEFINITION. What an implementation fixes, and the free values. -/

namespace Sys2Proof

/-- FREE VALUE (R131, log 1): whether the header write of a record enters the capture queue before its data write, at
the `n`-th time a slot enters RECORDING. R131 says "in an order the hardware does not fix". No body: nothing can be
proved about it. -/
opaque Config.headerWriteFirst : Nat → Bool

/-- The largest generation number (R10). -/
def Config.maxGeneration : Nat := 4294967295

/-- Silicon revision reported by STATUS (R163, R187). -/
def Config.siliconRevision : Nat := 1

end Sys2Proof
end

