-- ==== Sys2Proof/Syntax.lean ====
section
/-! DEFINITION. The commands of the FL24: one constructor for each row of spec/opcode_table.json, with the operands the
rules give it. A management command holds the raw fields of its frame (R185), so every refusal of R150 can be asked for. -/

namespace Sys2Proof

/-- The kind of a request on the system port or the memory port, with the data and byte enables of a WRITE (R103, R126). -/
inductive MemOp where
  | read
  | write (data : LineData) (enables : Enables)
  deriving DecidableEq, Repr

/-- A system-port request (R103). -/
structure SysRequest where
  requester : Requester
  tag : Tag
  line : Line
  op : MemOp
  deriving DecidableEq, Repr

/-- The status of a memory-port response (R127). -/
inductive MemStatus where
  | ok
  | error
  deriving DecidableEq, Repr

/-- The commands. -/
inductive Instr where
  /-- STATUS (R163). -/
  | status
  /-- DEFINE of a window with a base and a size in bytes (R151). -/
  | define (window : Byte) (base : BitVec 40) (size : BitVec 40)
  /-- CONFIGURE (R152): the six parameters as coded in the frame (R185). -/
  | configure (window fence policy depth : Byte) (reload : BitVec 16) (tick autoClose : Byte)
  /-- BIND_RING (R153): ring base, ring size in 64 KiB blocks, high threshold. -/
  | bindRing (window : Byte) (base : BitVec 40) (blocks : BitVec 24) (high : BitVec 32)
  /-- SET_CLASS (R154). -/
  | setClass (window requester cls : Byte)
  /-- DELETE (R155). -/
  | delete (window : Byte)
  /-- ARM (R156). -/
  | arm (window : Byte)
  /-- CLOSE (R157). -/
  | close (window : Byte)
  /-- RELEASE (R158). -/
  | release (window : Byte)
  /-- REWIND to a target generation (R159). -/
  | rewind (window : Byte) (target : BitVec 32)
  /-- PAUSE (R160). -/
  | pause (window : Byte)
  /-- RESUME (R161). -/
  | resume (window : Byte)
  /-- DISARM (R162). -/
  | disarm (window : Byte)
  /-- QUERY of a page (R166). -/
  | query (window page : Byte)
  /-- READ_EVENT (R164). -/
  | readEvent
  /-- SET_PORT (R165): response timeout in microseconds, attention enable code. -/
  | setPort (timeout : BitVec 16) (attention : Byte)
  /-- FRAME_ERROR (R145): the end of a COMMAND transfer in which no command is taken; the bits that followed the lead
  byte. -/
  | frameError (bits : List Bool)
  /-- SYSTEM_REQUEST (R105): a request presented on the system request channel. -/
  | systemRequest (request : SysRequest)
  /-- SYSTEM_RESPONSE_DELIVERY (R104): the interconnect accepts the oldest response. -/
  | systemResponseDelivery
  /-- ARBITER_GRANT (R133). -/
  | arbiterGrant
  /-- MEMORY_REQUEST_ISSUE (R134): the DRAM controller accepts the PRESENTED request. -/
  | memoryRequestIssue
  /-- MEMORY_RESPONSE (R127, R135): ticket, status, and the line's bytes (used only for a READ answered OK). -/
  | memoryResponse (ticket : Ticket) (status : MemStatus) (data : LineData)
  /-- RESPONSE_TIMEOUT (R138): the time left of this WAITING entry reaches 0. -/
  | responseTimeout (ticket : Ticket)
  /-- QUIET_TIMER_EXPIRY (R96, R97, R99): the remaining count of this window's RUNNING timer reaches 0. -/
  | quietTimerExpiry (window : WindowIdx)
  /-- RE_EXAMINATION (R120). -/
  | reExamination
  /-- DRAIN_END (R71) of a window. -/
  | drainEnd (window : WindowIdx)
  /-- SYSTEM_PORT_RESET (R123): SRST_N is asserted. -/
  | systemPortReset
  /-- POWER_ON_RESET (R124): POR_N is asserted. -/
  | powerOnReset
  /-- UNKNOWN_COMMAND (R150): a command frame taken with a code that is not one of the sixteen. -/
  | unknownCommand (code : Byte)
  /-- SYSTEM_PORT_RESET_RELEASE (R105): SRST_N is deasserted. -/
  | systemPortResetRelease
  /-- POWER_ON_RESET_RELEASE (R142, R190): POR_N is released, with CS_N low or high. -/
  | powerOnResetRelease (csLow : Bool)
  deriving DecidableEq, Repr

/-- The request writes memory (R103). -/
def MemOp.isWrite : MemOp → Bool
  | .read => false
  | .write _ _ => true

end Sys2Proof
end

