-- ==== Sys2Proof/Machine/Checks.lean ====
section
/-! DEFINITION. Bytes and checks: little-endian fields (section 10), the bytes of a line (R184), the CRC-8 of frames
(R146) and the CRC-32 of undo records (R65). -/

namespace Sys2Proof

/-- `n` bytes of a number, least significant byte first (10_layouts_and_signals). -/
def leBytes : Nat → Nat → List Byte
  | 0, _ => []
  | n + 1, x => BitVec.ofNat 8 x :: leBytes n (x / 256)

/-- The number that bytes spell, least significant byte first. -/
def leValue : List Byte → Nat
  | [] => 0
  | b :: bs => b.toNat + 256 * leValue bs

/-- A flag held in a byte of its own: 0x00 when clear and 0x01 when set (10.1). -/
def flagByte (b : Bool) : Byte := if b then 1 else 0

/-- A list cut or filled with 0x00 to exactly `n` bytes (bytes a layout does not assign are 0x00). -/
def padTo : Nat → List Byte → List Byte
  | 0, _ => []
  | n + 1, [] => 0 :: padTo n []
  | n + 1, b :: bs => b :: padTo n bs

/-- The bits of a byte, most significant first (R65, R143, R146). -/
def byteBits (b : Byte) : List Bool :=
  [b.getMsbD 0, b.getMsbD 1, b.getMsbD 2, b.getMsbD 3, b.getMsbD 4, b.getMsbD 5, b.getMsbD 6, b.getMsbD 7]

/-- The byte that eight bits spell, most significant first; bits beyond the eighth are not looked at. -/
def bitsByte (bs : List Bool) : Byte :=
  BitVec.ofNat 8 ((bs.take 8).foldl (fun n b => 2 * n + b.toNat) 0)

/-- The whole bytes that a list of bits spells, most significant bit first; the bits of a part byte are left out. -/
def bitsBytes : Nat → List Bool → List Byte
  | 0, _ => []
  | n + 1, bs => if bs.length < 8 then [] else bitsByte bs :: bitsBytes n (bs.drop 8)

/-- The check register after the given bits (R65, R146): compare the register's top bit with the data bit, shift left,
and exclusive-or the polynomial in when the two differed. -/
def crcBits {n : Nat} (poly : BitVec n) (r : BitVec n) : List Bool → BitVec n
  | [] => r
  | b :: bs => if r.msb != b then crcBits poly ((r <<< 1) ^^^ poly) bs else crcBits poly (r <<< 1) bs

/-- The frame check: CRC-8, polynomial 0x07, initial value 0x00 (R146). -/
def crc8 (bytes : List Byte) : Byte := crcBits 0x07#8 0x00#8 (bytes.flatMap byteBits)

/-- The record check: CRC-32, polynomial 0x04C11DB7, initial value 0xFFFFFFFF, no reflection, no final inversion (R65). -/
def crc32 (bytes : List Byte) : BitVec 32 := crcBits 0x04C11DB7#32 0xFFFFFFFF#32 (bytes.flatMap byteBits)

/-- The 64 bytes of a line, in order of increasing offset (R184). -/
def lineBytes (d : LineData) : List Byte := leBytes 64 d.toNat

/-- The line whose bytes are given, in order of increasing offset. -/
def lineOfBytes (bs : List Byte) : LineData := BitVec.ofNat 512 (leValue bs)

/-- The number in `n` bytes of a line from an offset on, least significant byte first (R184). -/
def lineField (d : LineData) (offset n : Nat) : Nat := d.toNat / 256 ^ offset % 256 ^ n

/-- All 64 byte enables set (R36, R126). -/
def allEnables : Enables := BitVec.allOnes 64

end Sys2Proof
end

