-- ==== Sys2Proof/Decode.lean ====
section
/-! DEFINITION. The command frames of the management port (R144, R145, R185): from the bits that followed the lead byte to
the command, and back. The opcode table gives no row any bits, so decodeTableWord answers none. -/

namespace Sys2Proof

/-- The number in `n` bytes of a frame from a position on (R185: read as an unsigned number of its full width). -/
def frameField (f : List Byte) (offset n : Nat) : Nat := leValue ((f.drop offset).take n)

/-- The command of a frame whose check was right (R150, R185). A code that is not one of the sixteen gives
UNKNOWN_COMMAND. Bytes that a command does not use are not looked at. -/
def commandOfFrame (f : List Byte) : Instr :=
  let w := f.getD 1 0
  match (f.getD 0 0).toNat with
  | 0x01 => .status
  | 0x02 => .define w (BitVec.ofNat 40 (frameField f 2 5)) (BitVec.ofNat 40 (frameField f 7 5))
  | 0x03 => .configure w (f.getD 2 0) (f.getD 3 0) (f.getD 4 0) (BitVec.ofNat 16 (frameField f 5 2)) (f.getD 7 0) (f.getD 8 0)
  | 0x04 => .bindRing w (BitVec.ofNat 40 (frameField f 2 5)) (BitVec.ofNat 24 (frameField f 7 3)) (BitVec.ofNat 32 (frameField f 10 4))
  | 0x05 => .setClass w (f.getD 2 0) (f.getD 3 0)
  | 0x06 => .arm w
  | 0x07 => .close w
  | 0x08 => .release w
  | 0x09 => .rewind w (BitVec.ofNat 32 (frameField f 2 4))
  | 0x0A => .pause w
  | 0x0B => .resume w
  | 0x0C => .disarm w
  | 0x0D => .delete w
  | 0x0E => .query w (f.getD 2 0)
  | 0x0F => .readEvent
  | 0x10 => .setPort (BitVec.ofNat 16 (frameField f 2 2)) (f.getD 4 0)
  | _ => .unknownCommand (f.getD 0 0)

/-- The 16 bytes of a frame's 128 bits (R144). -/
def frameBytes (bits : List Bool) : List Byte := bitsBytes 16 bits

/-- Exactly 128 bits followed the lead byte and the frame check matches (R144). -/
def frameIsGood (bits : List Bool) : Bool :=
  bits.length == 128 && (frameBytes bits).getD 15 0 == crc8 ((frameBytes bits).take 15)

/-- What the end of a COMMAND transfer is: a taken command, or a frame error (R144, R145). -/
def commandOfTransfer (bits : List Bool) : Instr :=
  if frameIsGood bits then commandOfFrame (frameBytes bits) else .frameError bits

/-- The sixteen command codes (R185). -/
def isCommandCode (code : Byte) : Bool := 0x01 ≤ code.toNat && code.toNat ≤ 0x10

/-- The command code of a management command (R185). -/
def Instr.code : Instr → Option Byte
  | .status => some 0x01
  | .define _ _ _ => some 0x02
  | .configure _ _ _ _ _ _ _ => some 0x03
  | .bindRing _ _ _ _ => some 0x04
  | .setClass _ _ _ => some 0x05
  | .arm _ => some 0x06
  | .close _ => some 0x07
  | .release _ => some 0x08
  | .rewind _ _ => some 0x09
  | .pause _ => some 0x0A
  | .resume _ => some 0x0B
  | .disarm _ => some 0x0C
  | .delete _ => some 0x0D
  | .query _ _ => some 0x0E
  | .readEvent => some 0x0F
  | .setPort _ _ => some 0x10
  | .unknownCommand c => some c
  | .frameError _ | .systemRequest _ | .systemResponseDelivery | .arbiterGrant | .memoryRequestIssue
  | .memoryResponse _ _ _ | .responseTimeout _ | .quietTimerExpiry _ | .reExamination | .drainEnd _
  | .systemPortReset | .powerOnReset | .systemPortResetRelease | .powerOnResetRelease _ => none

/-- Bytes 1 to 14 of a command's frame: the window index and the parameters (R185). -/
def Instr.parameters : Instr → List Byte
  | .define w base size => w :: leBytes 5 base.toNat ++ leBytes 5 size.toNat
  | .configure w fence policy depth reload tick auto =>
      w :: fence :: policy :: depth :: leBytes 2 reload.toNat ++ [tick, auto]
  | .bindRing w base blocks high => w :: leBytes 5 base.toNat ++ leBytes 3 blocks.toNat ++ leBytes 4 high.toNat
  | .setClass w requester cls => [w, requester, cls]
  | .arm w | .close w | .release w | .pause w | .resume w | .disarm w | .delete w => [w]
  | .rewind w target => w :: leBytes 4 target.toNat
  | .query w page => [w, page]
  | .setPort timeout attention => 0 :: leBytes 2 timeout.toNat ++ [attention]
  | _ => []

/-- The first 15 bytes of a management command's frame (R144). -/
def Instr.frameHead (i : Instr) : Option (List Byte) :=
  i.code.map (fun c => c :: padTo 14 i.parameters)

/-- The 16 bytes of a management command's frame, with its check (R144, R146, R185). -/
def Instr.frame (i : Instr) : Option (List Byte) :=
  i.frameHead.map (fun h => h ++ [crc8 h])

/-- The 128 bits of a management command's frame as they go over MOSI (R143, R144). -/
def Instr.frameBits (i : Instr) : Option (List Bool) :=
  i.frame.map (fun f => f.flatMap byteBits)

/-- The command a word spells by the table's bits: the table gives no row any bits. -/
def decodeTableWord (_nbits _w : Nat) : Option Instr := none

end Sys2Proof
end

