-- ==== Sys2Proof/Machine/State.lean ====
section
/-! DEFINITION. The state of the FL24 as plain data, its value after reset, and the two types of stops (neither of which any
command reaches). -/

namespace Sys2Proof.Machine

open Sys2Proof

/-! ### Names of the window table (R1, R8) -/

/-- Window states (R1). -/
inductive WindowState where
  | unused | defined | armed | rewinding | paused | faulted | disarming
  deriving DecidableEq, Repr

/-- Fence modes (R1). -/
inductive FenceMode where
  | hold | refuse
  deriving DecidableEq, Repr

/-- Ring policies (R1). -/
inductive RingPolicy where
  | hold | refuse | reclaim
  deriving DecidableEq, Repr

/-- Quiet ticks: 1, 10, 100, 1000 microseconds (R1). -/
inductive QuietTick where
  | us1 | us10 | us100 | us1000
  deriving DecidableEq, Repr

/-- Requester classes (R1). -/
inductive ReqClass where
  | lead | background | readOnly
  deriving DecidableEq, Repr

/-- Generation states (R8); `opened` is the manual's OPEN. -/
inductive GenState where
  | opened | closing | closed
  deriving DecidableEq, Repr

/-- Close causes (R8). -/
inductive CloseCause where
  | command | quiet
  deriving DecidableEq, Repr

/-- Release causes (R15). -/
inductive ReleaseCause where
  | command | depth | reclaim
  deriving DecidableEq, Repr

/-- Fault causes (R21). -/
inductive FaultCause where
  | ringWriteError | ringReadError | recordBad | restoreWriteError
  deriving DecidableEq, Repr

/-- An undo ring bound to a window: base, size in 64 KiB blocks, high threshold in records (R1, R4). -/
structure RingBinding where
  base : Addr
  blocks : Nat
  high : Nat
  deriving DecidableEq, Repr

/-- A generation entry (R8). -/
structure GenEntry where
  number : Nat
  state : GenState
  firstSeq : Option Seq
  recordCount : Nat
  slotsPending : Nat
  closeCause : Option CloseCause
  deriving DecidableEq, Repr

/-- A fault record (R21). -/
structure FaultRecord where
  cause : FaultCause
  sequence : Option Seq
  line : Option Line
  deriving DecidableEq, Repr

/-! ### The rewind context (R66, R73) -/

/-- Phases of a rewind (R66). -/
inductive Phase where
  | drain | walk
  deriving DecidableEq, Repr

/-- Kinds of undo records (R62, R63). -/
inductive RecordKind where
  | capture | void
  deriving DecidableEq, Repr

/-- Stages of the record in hand (R73). -/
inductive Stage where
  | header | data | restore | finished
  deriving DecidableEq, Repr

/-- The record in hand (R73). `ready` says that its operation waits to be handed to the memory port (R74); `headerLine` and
`dataLine` are the lines its reads returned, which the tests of R76 and the restore write of R77 need. -/
structure RecordInHand where
  position : Nat
  sequence : Seq
  kind : Option RecordKind
  stage : Stage
  redo : Bool
  ready : Bool
  headerLine : LineData
  dataLine : LineData
  deriving DecidableEq, Repr

/-- The fields that the end of the drain sets together (R66, R71). -/
structure StopFields where
  stopPosition : Nat
  stopSequence : Seq
  remaining : Nat
  nextPosition : Nat
  nextSequence : Seq
  deriving DecidableEq, Repr

/-- A rewind context (R66). -/
structure RewindContext where
  target : Nat
  targetMoved : Bool
  phase : Phase
  pauseRequested : Bool
  stop : Option StopFields
  restored : Nat
  skipped : Nat
  inHand : Option RecordInHand
  deriving DecidableEq, Repr

/-! ### Ring state, quiet timer, window record -/

/-- What the ring manager keeps for a window (R47). -/
structure RingState where
  tail : Nat
  head : Nat
  occupancy : Nat
  nextSeq : Seq
  full : Bool
  high : Bool
  deriving DecidableEq, Repr

/-- A quiet timer (R90). `elapsed` is the microseconds passed of the quiet tick in progress (R91). -/
structure QuietTimer where
  running : Bool
  remaining : Nat
  lapsed : Bool
  elapsed : Nat
  deriving DecidableEq, Repr

/-- A window record (R1) with the window's ring state (R47) and quiet timer (R90). `size` is in bytes. -/
structure Window where
  state : WindowState
  base : Addr
  size : Nat
  fence : FenceMode
  policy : RingPolicy
  depth : Nat
  quietReload : Nat
  quietTick : QuietTick
  autoClose : Bool
  classes : Vector ReqClass 64
  binding : Option RingBinding
  lastGen : Nat
  gens : List GenEntry
  quietClosePending : Bool
  rewind : Option RewindContext
  fault : Option FaultRecord
  ring : RingState
  timer : QuietTimer
  deriving DecidableEq, Repr

/-- The ring state after POR, at ARM and at disarm completion (R47, R48). -/
def RingState.empty : RingState :=
  { tail := 0, head := 0, occupancy := 0, nextSeq := 0, full := false, high := false }

/-- A stopped timer with lapsed clear (R90, R95). -/
def QuietTimer.stopped : QuietTimer := { running := false, remaining := 0, lapsed := false, elapsed := 0 }

/-- A window record after POR (R1, R47, R90). -/
def Window.afterPor : Window :=
  { state := .unused, base := 0, size := 0, fence := .hold, policy := .hold, depth := 2, quietReload := 0,
    quietTick := .us1000, autoClose := false, classes := Vector.replicate 64 .lead, binding := none, lastGen := 0,
    gens := [], quietClosePending := false, rewind := none, fault := none, ring := RingState.empty,
    timer := QuietTimer.stopped }

/-! ### Capture engine (R23, R29) -/

/-- A capture filter entry and the way that holds it (R23). -/
structure FilterEntry where
  way : Fin 4
  window : WindowIdx
  generation : Nat
  line : Line
  deriving DecidableEq, Repr

/-- A set of the capture filter: its non-empty ways in order of insertion, the way inserted longest ago first (R23). -/
abbrev FilterSet := List FilterEntry

/-- Phases of a capture slot (R29). -/
inductive SlotPhase where
  | reading | recording | voiding | forwarding
  deriving DecidableEq, Repr

/-- The trigger of a capture slot (R29). -/
structure Trigger where
  requester : Requester
  tag : Tag
  data : LineData
  enables : Enables
  deriving DecidableEq, Repr

/-- A busy capture slot (R29). The last three fields say, in RECORDING, which record writes have been answered and
whether one was answered ERROR (R37, R38). -/
structure Slot where
  phase : SlotPhase
  window : WindowIdx
  generation : Nat
  position : Nat
  sequence : Seq
  line : Line
  trigger : Trigger
  dropped : Bool
  headerAnswered : Bool
  dataAnswered : Bool
  writeFailed : Bool
  deriving DecidableEq, Repr

/-! ### Admission unit and system port (R104, R105, R118) -/

/-- Park reasons (R118). -/
inductive ParkReason where
  | lineBusy | noSlot | ringFull | fenced
  deriving DecidableEq, Repr

/-- A park-list entry: the request, the window and class it was classified with (none if untracked), the reason (R118). -/
structure ParkEntry where
  request : SysRequest
  place : Option (WindowIdx × ReqClass)
  reason : ParkReason
  deriving DecidableEq, Repr

/-- Status of a system-port response (R104). -/
inductive SysStatus where
  | done | fault
  deriving DecidableEq, Repr

/-- A system-port response (R104). -/
structure SysResponse where
  requester : Requester
  tag : Tag
  status : SysStatus
  data : Option LineData
  deriving DecidableEq, Repr

/-! ### Memory port (R126, R128) -/

/-- The memory operations of a capture (R128). -/
inductive CaptureOp where
  | captureRead | headerWrite | dataWrite | voidWrite
  deriving DecidableEq, Repr

/-- The memory operations of a rewind (R128). -/
inductive RewindOp where
  | headerRead | dataRead | restoreWrite
  deriving DecidableEq, Repr

/-- Who asked for a memory-port request (R128): an admitted request or the trigger of a slot (FORWARD), an operation of a
slot (CAPTURE), an operation of a window's rewind (REWIND). -/
inductive Owner where
  | request (requester : Requester) (tag : Tag)
  | trigger (slot : SlotIdx)
  | capture (slot : SlotIdx) (op : CaptureOp)
  | rewind (window : WindowIdx) (op : RewindOp)
  deriving DecidableEq, Repr

/-- The three sources of the memory port (R130 to R132). -/
inductive Source where
  | forward | capture | rewind
  deriving DecidableEq, Repr

/-- A memory-port request without its ticket (R126), with its owner. -/
structure MemRequest where
  owner : Owner
  line : Line
  op : MemOp
  deriving DecidableEq, Repr

/-- States of an outstanding-table entry that is not FREE (R128). -/
inductive EntryState where
  | presented | waiting | late
  deriving DecidableEq, Repr

/-- An outstanding-table entry that is not FREE (R128); `timeLeft` is meaningful in WAITING. -/
structure OutEntry where
  state : EntryState
  request : MemRequest
  orphaned : Bool
  timeLeft : Nat
  deriving DecidableEq, Repr

/-! ### Events (R170) -/

/-- The fourteen event kinds (R180 to R183). -/
inductive EventKind where
  | genClosed | genReleased | quietExpired | rewindDone | rewindPaused | disarmed | ringHigh | ringFull
  | captureReadError | windowFaulted | memoryTimeout | tagReuse | trespass | deniedWrite
  deriving DecidableEq, Repr

/-- The cause item of an event (R170). -/
inductive Cause where
  | close (c : CloseCause)
  | release (c : ReleaseCause)
  | fault (c : FaultCause)
  deriving DecidableEq, Repr

/-- What the producing block puts in an event record (R170): absent items are `none`. -/
structure EventBody where
  kind : EventKind
  window : Option WindowIdx := none
  generation : Option Nat := none
  cause : Option Cause := none
  requester : Option Requester := none
  tag : Option Tag := none
  line : Option Line := none
  sequence : Option Seq := none
  source : Option Source := none
  occupancy : Option Nat := none
  target : Option Nat := none
  targetMoved : Option Bool := none
  exhausted : Option Bool := none
  restored : Option Nat := none
  skipped : Option Nat := none
  remaining : Option Nat := none
  deriving DecidableEq, Repr

/-- An event record with its serial (R170, R171). -/
structure Event where
  serial : BitVec 16
  body : EventBody
  deriving DecidableEq, Repr

/-! ### Management port (R142) -/

/-- The transfer item of R142, with what a transfer in progress has counted: the lead bits taken, the bits shifted out. -/
inductive Transfer where
  | idle
  | lead (bits : List Bool)
  | command
  | response (shifted : Nat)
  | ignored
  deriving DecidableEq, Repr

/-! ### The whole state -/

/-- The state of the FL24. -/
structure State where
  /-- The window table, the ring manager and the quiet timers (R1, R47, R90). -/
  windows : Vector Window 16
  /-- The capture filter: the sets that hold an entry, by set index, indexes strictly rising (R23). -/
  filter : List (Nat × FilterSet)
  /-- The capture slots; `none` is a free slot (R29). -/
  slots : Vector (Option Slot) 16
  /-- The requests taken and not yet answered or discarded (R105, R106). -/
  admitted : List (Requester × Tag)
  /-- The park list, oldest first (R118). -/
  park : List ParkEntry
  /-- The waiting arrival (R118). -/
  waiting : Option SysRequest
  /-- A trigger for re-examination has been taken and no pass has begun since (R119, R194). -/
  reexamDue : Bool
  /-- The pass in progress: how many entries at the oldest end of the park list it has decided and left in place; `none`
  between passes (R120, R194 to R196). -/
  pass : Option Nat
  /-- The response queue, oldest first (R104). -/
  responses : List SysResponse
  /-- The forward queue, oldest first (R130). -/
  forwardQ : List MemRequest
  /-- The capture queue, oldest first (R131). -/
  captureQ : List MemRequest
  /-- The outstanding table; `none` is a FREE entry (R128). -/
  table : Vector (Option OutEntry) 48
  /-- The source granted last (R133). -/
  lastSource : Source
  /-- The response timeout in microseconds (R137). -/
  timeout : BitVec 16
  /-- The operation the rewind engine offers (R132). -/
  rewindOffer : Option MemRequest
  /-- The window granted the REWIND source last (R74). -/
  rewindLast : WindowIdx
  /-- The event queue, oldest first (R172). -/
  events : List Event
  /-- The serial counter (R171). -/
  serial : BitVec 16
  /-- The lost flag (R173). -/
  lost : Bool
  /-- The attention enable (R176). -/
  attnEnable : Bool
  /-- The transfer in progress (R142). -/
  transfer : Transfer
  /-- The bits taken from MOSI since the lead byte of a COMMAND transfer ended (R142). -/
  frameBuffer : List Bool
  /-- POR_N was released with CS_N low and CS_N has not risen since (R142). -/
  waitCsRise : Bool
  /-- The held response, 64 bytes (R142, R148). -/
  held : List Byte
  /-- The command number (R142, R144). -/
  cmdNumber : Byte
  /-- SRST_N is asserted (R105, R190). -/
  srst : Bool
  /-- POR_N is asserted (R142, R190). -/
  por : Bool
  /-- The model's own: how many free values have been drawn (log 1). -/
  freeCount : Nat
  /-- The commands that wait, oldest first. -/
  pending : List Instr
  deriving DecidableEq, Repr

/-- The part after power-on reset, POR_N just released: every block in its initial state (R1, R23, R29, R44, R47, R66, R74,
R90, R104, R105, R118, R124, R128, R130 to R133, R137, R141, R142, R148, R171 to R179). CS_N and SRST_N are high
(log 7). -/
def State.reset : State :=
  { windows := Vector.replicate 16 Window.afterPor
    filter := []
    slots := Vector.replicate 16 none
    admitted := []
    park := []
    waiting := none
    reexamDue := false
    pass := none
    responses := []
    forwardQ := []
    captureQ := []
    table := Vector.replicate 48 none
    lastSource := .rewind
    timeout := 1000
    rewindOffer := none
    rewindLast := 15
    events := []
    serial := 0
    lost := false
    attnEnable := false
    transfer := .idle
    frameBuffer := []
    waitCsRise := false
    held := List.replicate 64 0
    cmdNumber := 0
    srst := false
    por := false
    freeCount := 0
    pending := [] }

/-! ### Stops -/

/-- The faults a step can end in: none. The spec gives every failure an effect (a status, an event, a FAULT answer, a
FAULTED window), so no meaning stops with a fault. -/
inductive Fault where
  deriving DecidableEq, Repr

/-- The refusals a step can end in. -/
inductive Refusal where
  /-- Raised by `exec` for a command that has no meaning yet; no arm raises it now. Safe: the model stops. -/
  | notModelled (mnemonic : String)
  deriving DecidableEq, Repr

end Sys2Proof.Machine
end

