-- ==== Sys2Proof/Machine/Ops.lean ====
section
/-! DEFINITION. The shared accessors of the state: windows, slots, outstanding entries, the filter's sets, the event queue, the
response queue, the trigger for re-examination, ring addresses and the line interlock. -/

namespace Sys2Proof.Machine

open Sys2Proof

/-! ### Windows, slots and entries -/

/-- The record of a window (R1). -/
def State.window (s : State) (w : WindowIdx) : Window := s.windows[w]

/-- The state with another record for a window. -/
def State.setWindow (s : State) (w : WindowIdx) (v : Window) : State := { s with windows := s.windows.set w v }

/-- The state with a window's record changed by a function. -/
def State.modWindow (s : State) (w : WindowIdx) (f : Window → Window) : State := s.setWindow w (f (s.window w))

/-- A capture slot; `none` is free (R29). -/
def State.slot (s : State) (k : SlotIdx) : Option Slot := s.slots[k]

/-- The state with another content of a slot. -/
def State.setSlot (s : State) (k : SlotIdx) (v : Option Slot) : State := { s with slots := s.slots.set k v }

/-- An outstanding-table entry; `none` is FREE (R128). -/
def State.entry (s : State) (t : Ticket) : Option OutEntry := s.table[t]

/-- The state with another content of an outstanding-table entry. -/
def State.setEntry (s : State) (t : Ticket) (v : Option OutEntry) : State := { s with table := s.table.set t v }

/-- The busy slots (R29). -/
def State.busySlots (s : State) : List Slot := s.slots.toList.filterMap id

/-- The busy slots that name a window (R17, R41). -/
def State.slotsOf (s : State) (w : WindowIdx) : List Slot := s.busySlots.filter (fun k => k.window == w)

/-- The occupied entries of the outstanding table (R128). -/
def State.occupied (s : State) : List OutEntry := s.table.toList.filterMap id

/-- The lowest-numbered free slot (R30). -/
def State.freeSlot (s : State) : Option SlotIdx := (List.finRange 16).find? (fun k => (s.slot k).isNone)

/-- The lowest-numbered FREE entry (R129, R134). -/
def State.freeEntry (s : State) : Option Ticket := (List.finRange 48).find? (fun t => (s.entry t).isNone)

/-! ### Events (R171 to R173) -/

/-- An event is produced: it takes the serial counter's value, the counter rises, and its record enters the queue, or is
dropped with the lost flag set when the queue holds 64 records (R171, R172, R173). -/
def emit (body : EventBody) (s : State) : State :=
  { s with
    events := if s.events.length < 64 then s.events ++ [{ serial := s.serial, body := body }] else s.events
    serial := s.serial + 1
    lost := s.lost || !decide (s.events.length < 64) }

/-! ### Answers (R104, R105) -/

/-- A response enters the response queue (R104). -/
def respond (r : SysResponse) (s : State) : State := { s with responses := s.responses ++ [r] }

/-- An admitted request is answered: it stops being admitted and its response enters the response queue (R104, R105, R122).
A request that is not admitted is owed no response (log 8). -/
def answer (requester : Requester) (tag : Tag) (status : SysStatus) (data : Option LineData) (s : State) : State :=
  { s with
    admitted := s.admitted.erase (requester, tag)
    responses :=
      if s.admitted.contains (requester, tag) then
        s.responses ++ [{ requester := requester, tag := tag, status := status, data := data }]
      else s.responses }

/-! ### Triggers (R119) -/

/-- A trigger for re-examination. It has no effect when the park list is empty and there is no waiting arrival (R119); one
raised while a pass is in progress is owed a further pass (R194). -/
def raiseTrigger (s : State) : State :=
  { s with reexamDue := s.reexamDue || !(s.park.isEmpty && s.waiting.isNone) }

/-! ### The window record -/

/-- The OPEN entry of a generation list (R8, R9). -/
def Window.openEntry (v : Window) : Option GenEntry := v.gens.find? (fun e => e.state == .opened)

/-- The number of the OPEN entry; 0, which no generation has, when there is none. -/
def Window.openNumber (v : Window) : Nat := (v.openEntry.map (·.number)).getD 0

/-- The list holds a CLOSING entry (R9). -/
def Window.hasClosing (v : Window) : Bool := v.gens.any (fun e => e.state == .closing)

/-- The window is exhausted (R10). -/
def Window.exhausted (v : Window) : Bool := decide (Config.maxGeneration ≤ v.lastGen)

/-- A fresh OPEN entry (R7, R11, R79). -/
def GenEntry.fresh (n : Nat) : GenEntry :=
  { number := n, state := .opened, firstSeq := none, recordCount := 0, slotsPending := 0, closeCause := none }

/-- A line lies in the window's range, from base up to but not including base plus size (R1, R109). -/
def Window.covers (v : Window) (l : Line) : Bool :=
  decide (v.base.toNat ≤ Line.addr l) && decide (Line.addr l < v.base.toNat + v.size)

/-- Ring size in bytes (R4, R153). -/
def RingBinding.bytes (b : RingBinding) : Nat := b.blocks * 65536

/-- Capacity in records: ring size divided by 128 (R1, R4). -/
def RingBinding.capacity (b : RingBinding) : Nat := b.blocks * 512

/-- Capacity of the window's ring; 0 with no binding (R187). -/
def Window.capacity (v : Window) : Nat := (v.binding.map RingBinding.capacity).getD 0

/-- High threshold of the window's ring; 0 with no binding (R187). -/
def Window.highThreshold (v : Window) : Nat := (v.binding.map (·.high)).getD 0

/-- A line lies in the window's ring area (R4). -/
def Window.ringCovers (v : Window) (l : Line) : Bool :=
  match v.binding with
  | none => false
  | some b => decide (b.base.toNat ≤ Line.addr l) && decide (Line.addr l < b.base.toNat + b.bytes)

/-- The header line of a ring position: at ring base plus 128 times the position (R36, R49). -/
def Window.headerLine (v : Window) (p : Nat) : Line :=
  BitVec.ofNat 34 (((v.binding.map (·.base.toNat)).getD 0 + 128 * p) / 64)

/-- The data line of a ring position: 64 bytes above its header line (R36, R49). -/
def Window.dataLine (v : Window) (p : Nat) : Line := v.headerLine p + 1

/-- The position after `p`, with 0 following capacity − 1 (R49). -/
def nextPosition (capacity p : Nat) : Nat := (p + 1) % capacity

/-- The position before `p`, with capacity − 1 before 0 (R49, R73). -/
def prevPosition (capacity p : Nat) : Nat := if p = 0 then capacity - 1 else p - 1

/-- The tail sequence: next sequence minus occupancy, modulo 2^32 (R50). -/
def RingState.tailSeq (r : RingState) : Seq := r.nextSeq - BitVec.ofNat 32 r.occupancy

/-- The sum of the record counts of entries (R53, R54). -/
def recordSum (gens : List GenEntry) : Nat := (gens.map (·.recordCount)).sum

/-- The entries older than the one numbered `g` (R54). -/
def olderThan (g : Nat) (gens : List GenEntry) : List GenEntry := gens.takeWhile (fun e => e.number != g)

/-- The entry numbered `g` and every newer entry (R54, R79). -/
def fromTarget (g : Nat) (gens : List GenEntry) : List GenEntry := gens.dropWhile (fun e => e.number != g)

/-- The class of a requester in a window (R1, R109). -/
def Window.classOf (v : Window) (r : Requester) : ReqClass := v.classes[r]

/-! ### Ownership and the line interlock (R113) -/

/-- The source of a request, from its owner (R126, R128). -/
def Owner.source : Owner → Source
  | .request _ _ => .forward
  | .trigger _ => .forward
  | .capture _ _ => .capture
  | .rewind _ _ => .rewind

/-- The requests that hold the line they name until their memory response: forwarded requests, triggers, capture reads,
restore writes (R32, R78, R113, R135). -/
def Owner.holdsLine : Owner → Bool
  | .request _ _ => true
  | .trigger _ => true
  | .capture _ .captureRead => true
  | .capture _ _ => false
  | .rewind _ .restoreWrite => true
  | .rewind _ _ => false

/-- A request holds a line. -/
def MemRequest.holds (r : MemRequest) (l : Line) : Bool := r.owner.holdsLine && r.line == l

/-- A line is held (R113): by a request in the forward queue, by a busy slot whose target it is, by a restore write handed to
the memory port, or by an outstanding request whose response has not arrived. -/
def lineHeld (s : State) (l : Line) : Bool :=
  s.forwardQ.any (·.holds l) || s.busySlots.any (fun k => k.line == l) || s.rewindOffer.any (·.holds l) ||
    s.occupied.any (fun e => e.request.holds l)

/-- A line is busy for a request: it is held, or an older park-list entry names it (R113). -/
def lineBusy (older : List ParkEntry) (s : State) (l : Line) : Bool :=
  lineHeld s l || older.any (fun e => e.request.line == l)

/-- The end of a hold on a line is reported to the admission unit: a trigger for re-examination (R114, R119). -/
def reportHoldEnd (l : Line) (s : State) : State := if lineHeld s l then s else raiseTrigger s

end Sys2Proof.Machine
end

