-- ==== Sys2Proof/Machine/Filter.lean ====
section
/-! DEFINITION. The capture filter (R23 to R28). It holds the sets that have an entry, by set index, indexes strictly rising;
a set that is not listed has four empty ways. -/

namespace Sys2Proof.Machine

open Sys2Proof

/-- The set of a line: its line number modulo 2048 (R23). -/
def filterIndex (l : Line) : Nat := l.toNat % 2048

/-- The set at an index; unlisted sets are empty (R23). -/
def filterGet : List (Nat × FilterSet) → Nat → FilterSet
  | [], _ => []
  | (i, v) :: rest, k => if i = k then v else filterGet rest k

/-- The filter with another content of the set at an index: listed in rising order, an empty set not at all. -/
def filterPut : List (Nat × FilterSet) → Nat → FilterSet → List (Nat × FilterSet)
  | [], k, v => if v = [] then [] else [(k, v)]
  | (i, u) :: rest, k, v =>
      if i = k then (if v = [] then rest else (k, v) :: rest)
      else if k < i then (if v = [] then (i, u) :: rest else (k, v) :: (i, u) :: rest)
      else (i, u) :: filterPut rest k v

/-- The canonical form of the filter: indexes strictly rising and below 2048, no empty set listed. -/
def filterCanonical (f : List (Nat × FilterSet)) : Bool :=
  f.all (fun p => decide (p.1 < 2048) && !p.2.isEmpty) && decide ((f.map (·.1)).Pairwise (· < ·))

/-- An entry is not stale for its own window and line: the window is ARMED and the entry's generation is the window's OPEN
one (R24). -/
def entryLive (s : State) (e : FilterEntry) : Bool :=
  (s.window e.window).state == .armed && (s.window e.window).openEntry.any (fun g => g.number == e.generation)

/-- The capture filter lookup (R25): some way of the line's set holds a hit for the window and the line (R24). -/
def filterHit (s : State) (w : WindowIdx) (l : Line) : Bool :=
  (filterGet s.filter (filterIndex l)).any (fun e => e.window == w && e.line == l && entryLive s e)

/-- The way that an insertion takes (R27): the way with the same window and line; else the lowest empty way; else the stale
entry inserted longest ago; else the entry inserted longest ago. -/
def chooseWay (live : FilterEntry → Bool) (set : FilterSet) (w : WindowIdx) (l : Line) : Fin 4 :=
  match set.find? (fun e => e.window == w && e.line == l) with
  | some e => e.way
  | none =>
    match (List.finRange 4).find? (fun i => !set.any (fun e => e.way == i)) with
    | some i => i
    | none =>
      match set.find? (fun e => !live e) with
      | some e => e.way
      | none => (set.head?.map (·.way)).getD 0

/-- A set after an insertion: the chosen way receives the entry and becomes the most recently inserted (R27). -/
def insertInSet (live : FilterEntry → Bool) (set : FilterSet) (w : WindowIdx) (g : Nat) (l : Line) : FilterSet :=
  let way := chooseWay live set w l
  set.filter (fun e => e.way != way) ++ [{ way := way, window := w, generation := g, line := l }]

/-- The insertion rule (R26): an entry is inserted when the window is ARMED and the generation is its OPEN one. -/
def filterInsert (w : WindowIdx) (g : Nat) (l : Line) (s : State) : State :=
  if (s.window w).state == .armed && (s.window w).openEntry.any (fun e => e.number == g) then
    let set := insertInSet (entryLive s) (filterGet s.filter (filterIndex l)) w g l
    { s with filter := filterPut s.filter (filterIndex l) set }
  else s

/-- Every entry that names the window is removed; the others keep their ways and their order (R28). -/
def filterRemove (w : WindowIdx) (s : State) : State :=
  { s with filter := (s.filter.map (fun p => (p.1, p.2.filter (fun e => e.window != w)))).filter (fun p => !p.2.isEmpty) }

end Sys2Proof.Machine
end

