-- ==== Sys2Proof/Machine/Operands.lean ====
section
/-! DEFINITION. The codes of section 10.1, both ways: from a parameter byte to the value it names (none when it is not a
defined code, R150, R185), and from a value to its byte in responses, pages and event records. -/

namespace Sys2Proof.Machine

open Sys2Proof

/-- Window index of a frame (R150): 0 to 15. -/
def windowOfByte (b : Byte) : Option WindowIdx := if h : b.toNat < 16 then some ⟨b.toNat, h⟩ else none

/-- Requester parameter of SET_CLASS (R154): 0 to 63. -/
def requesterOfByte (b : Byte) : Option Requester := if h : b.toNat < 64 then some ⟨b.toNat, h⟩ else none

/-- Fence mode codes (10.1). -/
def fenceOfByte (b : Byte) : Option FenceMode :=
  if b = 0x00 then some .hold else if b = 0x01 then some .refuse else none

/-- Ring policy codes (10.1). -/
def policyOfByte (b : Byte) : Option RingPolicy :=
  if b = 0x00 then some .hold else if b = 0x01 then some .refuse else if b = 0x02 then some .reclaim else none

/-- Retain depth, 1 to 4 (R152). -/
def depthOfByte (b : Byte) : Option Nat := if 1 ≤ b.toNat ∧ b.toNat ≤ 4 then some b.toNat else none

/-- Quiet tick codes (10.1). -/
def tickOfByte (b : Byte) : Option QuietTick :=
  if b = 0x00 then some .us1 else if b = 0x01 then some .us10 else if b = 0x02 then some .us100
  else if b = 0x03 then some .us1000 else none

/-- On/off codes (10.1). -/
def onOffOfByte (b : Byte) : Option Bool := if b = 0x00 then some false else if b = 0x01 then some true else none

/-- Class codes (10.1). -/
def classOfByte (b : Byte) : Option ReqClass :=
  if b = 0x00 then some .lead else if b = 0x01 then some .background else if b = 0x02 then some .readOnly else none

/-- Fence mode codes (10.1). -/
def FenceMode.code : FenceMode → Byte
  | .hold => 0x00
  | .refuse => 0x01

/-- Ring policy codes (10.1). -/
def RingPolicy.code : RingPolicy → Byte
  | .hold => 0x00
  | .refuse => 0x01
  | .reclaim => 0x02

/-- Quiet tick codes (10.1). -/
def QuietTick.code : QuietTick → Byte
  | .us1 => 0x00
  | .us10 => 0x01
  | .us100 => 0x02
  | .us1000 => 0x03

/-- The length of a quiet tick in microseconds (R91). -/
def QuietTick.micros : QuietTick → Nat
  | .us1 => 1
  | .us10 => 10
  | .us100 => 100
  | .us1000 => 1000

/-- Class codes (10.1). -/
def ReqClass.code : ReqClass → Byte
  | .lead => 0x00
  | .background => 0x01
  | .readOnly => 0x02

/-- Window state codes (10.1). -/
def WindowState.code : WindowState → Byte
  | .unused => 0x00
  | .defined => 0x01
  | .armed => 0x02
  | .rewinding => 0x03
  | .paused => 0x04
  | .faulted => 0x05
  | .disarming => 0x06

/-- Generation state codes (10.1). -/
def GenState.code : GenState → Byte
  | .opened => 0x01
  | .closing => 0x02
  | .closed => 0x03

/-- Close cause codes (10.1). -/
def CloseCause.code : CloseCause → Byte
  | .command => 0x01
  | .quiet => 0x02

/-- Release cause codes (10.1). -/
def ReleaseCause.code : ReleaseCause → Byte
  | .command => 0x01
  | .depth => 0x03
  | .reclaim => 0x04

/-- Fault cause codes (10.1). -/
def FaultCause.code : FaultCause → Byte
  | .ringWriteError => 0x10
  | .ringReadError => 0x11
  | .recordBad => 0x12
  | .restoreWriteError => 0x13

/-- Cause codes of events (10.1). -/
def Cause.code : Cause → Byte
  | .close c => c.code
  | .release c => c.code
  | .fault c => c.code

/-- Source codes (10.1). -/
def Source.code : Source → Byte
  | .forward => 0x01
  | .capture => 0x02
  | .rewind => 0x03

/-- Rewind phase codes (10.1). -/
def Phase.code : Phase → Byte
  | .drain => 0x00
  | .walk => 0x01

/-- Record kind codes (10.1, R184). -/
def RecordKind.code : RecordKind → Byte
  | .capture => 0x5A
  | .void => 0xA5

/-- Record-in-hand stage codes (10.1). -/
def Stage.code : Stage → Byte
  | .header => 0x01
  | .data => 0x02
  | .restore => 0x03
  | .finished => 0x04

/-- Event kind codes (10.1). -/
def EventKind.code : EventKind → Byte
  | .genClosed => 0x01
  | .genReleased => 0x02
  | .quietExpired => 0x03
  | .rewindDone => 0x04
  | .rewindPaused => 0x05
  | .disarmed => 0x06
  | .ringHigh => 0x10
  | .ringFull => 0x11
  | .captureReadError => 0x20
  | .windowFaulted => 0x21
  | .memoryTimeout => 0x22
  | .tagReuse => 0x30
  | .trespass => 0x31
  | .deniedWrite => 0x32

/-- Reasons of a frame error (R145). -/
inductive FrameReason where
  | short | long | crc
  deriving DecidableEq, Repr

/-- Frame error reason codes (10.1). -/
def FrameReason.code : FrameReason → Byte
  | .short => 0x01
  | .long => 0x02
  | .crc => 0x03

/-- The thirteen status codes of responses (R150). -/
inductive Status where
  | none | done | accepted | unknownCommand | badWindow | badState | badParam | overlap | noTarget | busy | exhausted
  | empty | frameError
  deriving DecidableEq, Repr

/-- Status codes (10.1). -/
def Status.code : Status → Byte
  | .none => 0x00
  | .done => 0x01
  | .accepted => 0x02
  | .unknownCommand => 0x10
  | .badWindow => 0x11
  | .badState => 0x12
  | .badParam => 0x13
  | .overlap => 0x14
  | .noTarget => 0x15
  | .busy => 0x16
  | .exhausted => 0x17
  | .empty => 0x18
  | .frameError => 0x1E

end Sys2Proof.Machine
end

