-- ==== Sys2Proof/Machine/Flags.lean ====
section
/-! DEFINITION. The flags that more than one rule computes: the ring's full and high flags (R52, R55, R59), the quiet timer's
stop, load and lapsed flag (R93 to R95), the attention line (R178). -/

namespace Sys2Proof.Machine

open Sys2Proof

/-- The ring state after occupancy has fallen by `c` records: the full flag clears when occupancy is below capacity, the
high flag when it is below the high threshold (R52, R59). -/
def RingState.lower (r : RingState) (capacity high c : Nat) : RingState :=
  { r with
    occupancy := r.occupancy - c
    full := r.full && !decide (r.occupancy - c < capacity)
    high := r.high && !decide (r.occupancy - c < high) }

/-- The timer stopped, with the lapsed flag as the cause gives it (R95). -/
def QuietTimer.stop (lapsed : Bool) : QuietTimer := { QuietTimer.stopped with lapsed := lapsed }

/-- The timer loaded: remaining is the quiet reload, a new quiet tick begins, the timer runs, lapsed is clear
(R91, R93, R94). -/
def QuietTimer.load (reload : Nat) : QuietTimer := { running := true, remaining := reload, lapsed := false, elapsed := 0 }

/-- The timer is at its expiry: RUNNING, with its remaining count at 0 (R91). -/
def QuietTimer.due (t : QuietTimer) : Bool := t.running && t.remaining == 0

/-- What a reported write placement does to a window's quiet timer (R93, R94). -/
def Window.timerAfterPlacement (v : Window) (c : ReqClass) : QuietTimer :=
  if v.quietReload = 0 then v.timer
  else if v.timer.running then (if c = .lead then QuietTimer.load v.quietReload else v.timer)
  else if v.quietClosePending then v.timer
  else if v.timer.lapsed then (if c = .lead then QuietTimer.load v.quietReload else v.timer)
  else QuietTimer.load v.quietReload

/-- The timer is stopped and quiet-close pending is cleared (R11, R17, R20, R67, R95). -/
def Window.quietStopped (v : Window) : Window := { v with timer := QuietTimer.stop false, quietClosePending := false }

/-- ATTN_N is asserted (driven low): the queue holds a record, attention is enabled, and POR_N is not asserted
(R173, R177, R178). -/
def attentionAsserted (s : State) : Bool := !s.events.isEmpty && s.attnEnable && !s.por

end Sys2Proof.Machine
end

