-- ==== Sys2Proof/Machine/Ring.lean ====
section
/-! DEFINITION. The ring manager (chapter 3): reservation, release, reclaim, truncation, and what a full ring does. -/

namespace Sys2Proof.Machine

open Sys2Proof

/-- The OPEN entry of a generation list changed by a function. -/
def mapOpen (f : GenEntry → GenEntry) (gens : List GenEntry) : List GenEntry :=
  gens.map (fun e => if e.state = .opened then f e else e)

/-- One more record in an entry; the sequence number given becomes its first sequence if it has none (R51). -/
def GenEntry.addRecord (q : Seq) (e : GenEntry) : GenEntry :=
  { e with recordCount := e.recordCount + 1, firstSeq := if e.firstSeq.isNone then some q else e.firstSeq }

/-- The ring state after a reservation (R51, R52). -/
def RingState.reserved (r : RingState) (capacity high : Nat) : RingState :=
  { r with
    head := nextPosition capacity r.head
    nextSeq := r.nextSeq + 1
    occupancy := r.occupancy + 1
    high := r.high || decide (r.occupancy + 1 = high) }

/-- RING_HIGH is due at a reservation: it raises occupancy to the high threshold while the high flag is clear (R52). -/
def Window.highDue (v : Window) : Bool := !v.ring.high && decide (v.ring.occupancy + 1 = v.highThreshold)

/-- A reservation in a window whose ring is not full (R51): the position is the head, the sequence number next sequence. -/
def reserve (w : WindowIdx) (s : State) : State :=
  let v := s.window w
  let s1 := s.setWindow w { v with
    ring := v.ring.reserved v.capacity v.highThreshold
    gens := mapOpen (GenEntry.addRecord v.ring.nextSeq) v.gens }
  if v.highDue then
    emit { kind := .ringHigh, window := some w, generation := some v.openNumber,
           occupancy := some (v.ring.occupancy + 1) } s1
  else s1

/-- The ring state after the release of an entry with `c` records (R60). -/
def RingState.released (r : RingState) (capacity high c : Nat) : RingState :=
  if c = 0 then r else { r.lower capacity high c with tail := (r.tail + c) % capacity }

/-- A release of a window's oldest entry (R15, R60). A fall in occupancy is a trigger (R59). -/
def releaseOldest (w : WindowIdx) (cause : ReleaseCause) (s : State) : State :=
  match (s.window w).gens with
  | [] => s
  | m :: rest =>
    let v := s.window w
    let s1 := s.setWindow w { v with gens := rest, ring := v.ring.released v.capacity v.highThreshold m.recordCount }
    let s2 := emit { kind := .genReleased, window := some w, generation := some m.number,
                     cause := some (.release cause) } s1
    if m.recordCount = 0 then s2 else raiseTrigger s2

/-- The oldest entry of a window's list is CLOSED (R14, R58). -/
def Window.oldestClosed (v : Window) : Bool := v.gens.head?.any (fun e => e.state == .closed)

/-- The depth rule (R14): while the list holds more than depth entries and its oldest entry is CLOSED, it is released. The
number counts how many releases can still be made. -/
def depthLoop (w : WindowIdx) : Nat → State → State
  | 0, s => s
  | n + 1, s =>
    if (s.window w).depth < (s.window w).gens.length ∧ (s.window w).oldestClosed = true then
      depthLoop w n (releaseOldest w .depth s)
    else s

/-- The depth rule applied to a window (R14). -/
def depthRule (w : WindowIdx) (s : State) : State := depthLoop w (s.window w).gens.length s

/-- The ring is full (R49, R55). -/
def Window.ringIsFull (v : Window) : Bool := !decide (v.ring.occupancy < v.capacity)

/-- RECLAIM (R58): while the ring is full and the oldest entry is CLOSED, it is released. -/
def reclaimLoop (w : WindowIdx) : Nat → State → State
  | 0, s => s
  | n + 1, s =>
    if (s.window w).ringIsFull = true ∧ (s.window w).oldestClosed = true then
      reclaimLoop w n (releaseOldest w .reclaim s)
    else s

/-- A write is turned away by a full ring: the full flag is set, and RING_FULL is produced if it was clear (R55). -/
def turnedAway (w : WindowIdx) (requester : Requester) (l : Line) (s : State) : State :=
  let v := s.window w
  if v.ring.full then s
  else
    emit { kind := .ringFull, window := some w, generation := some v.openNumber, requester := some requester,
           line := some l }
      (s.setWindow w { v with ring := { v.ring with full := true } })

/-- The ring state after a truncation at a stop position and sequence that takes `c` records away (R61). -/
def RingState.truncated (r : RingState) (capacity high position c : Nat) (sequence : Seq) : RingState :=
  if c = 0 then r else { r.lower capacity high c with head := position, nextSeq := sequence }

end Sys2Proof.Machine
end

