-- ==== Sys2Proof/Machine/Windows.lean ====
section
/-! DEFINITION. The operations of the window table (chapter 1) and the quiet timers (chapter 5): close, quiet close, the end of
a generation's captures, disarm completion, fault entry, and the freeing of a capture slot (R41) that leads to them. -/

namespace Sys2Proof.Machine

open Sys2Proof

/-! ### Closing a generation (R11, R97, R99) -/

/-- An OPEN entry at its close: CLOSING while slots are pending, CLOSED otherwise (R11). -/
def GenEntry.closeWith (k : CloseCause) (e : GenEntry) : GenEntry :=
  { e with state := if 0 < e.slotsPending then .closing else .closed, closeCause := some k }

/-- The window record after a close, before the depth rule (R11). -/
def Window.closedBy (k : CloseCause) (v : Window) : Window :=
  { v.quietStopped with
    gens := mapOpen (GenEntry.closeWith k) v.gens ++ [GenEntry.fresh (v.lastGen + 1)]
    lastGen := v.lastGen + 1 }

/-- The close of R11 with its cause: GEN_CLOSED at once when no slot is pending, then the depth rule. -/
def closeGeneration (w : WindowIdx) (k : CloseCause) (s : State) : State :=
  let v := s.window w
  let s1 := s.setWindow w (v.closedBy k)
  let s2 :=
    match v.openEntry with
    | some m =>
      if m.slotsPending = 0 then
        emit { kind := .genClosed, window := some w, generation := some m.number, cause := some (.close k) } s1
      else s1
    | none => s1
  depthRule w s2

/-- A quiet close that is due (R97, R98, R99): the close with cause QUIET, or, when no generation number is left,
QUIET_EXPIRED with the exhausted indication and the timer stopped with lapsed set. -/
def quietClose (w : WindowIdx) (s : State) : State :=
  let v := s.window w
  if v.exhausted then
    emit { kind := .quietExpired, window := some w, generation := some v.openNumber, exhausted := some true }
      (s.setWindow w { v with timer := QuietTimer.stop true, quietClosePending := false })
  else closeGeneration w .quiet s

/-- The expiry of a window's quiet timer (R96, R97, R99). -/
def quietExpiry (w : WindowIdx) (s : State) : State :=
  let v := s.window w
  if v.autoClose = false then
    emit { kind := .quietExpired, window := some w, generation := some v.openNumber, exhausted := some false }
      (s.setWindow w { v with timer := QuietTimer.stop true })
  else if v.hasClosing then
    s.setWindow w { v with timer := QuietTimer.stop false, quietClosePending := true }
  else quietClose w s

/-! ### Disarm completion (R19) -/

/-- The window record after disarm completion (R19). -/
def Window.disarmed (v : Window) : Window :=
  { v.quietStopped with
    state := .defined, gens := [], ring := RingState.empty, rewind := none, fault := none }

/-- Disarm completion (R19), with DISARMED and the re-examination that the state change triggers. -/
def disarmCompletion (w : WindowIdx) (s : State) : State :=
  let v := s.window w
  raiseTrigger
    (emit { kind := .disarmed, window := some w, restored := v.rewind.map (·.restored) } (s.setWindow w v.disarmed))

/-! ### The freeing of a slot (R13, R31, R41) -/

/-- The entry numbered `m` changed by a function. -/
def mapNumber (m : Nat) (f : GenEntry → GenEntry) (gens : List GenEntry) : List GenEntry :=
  gens.map (fun e => if e.number = m then f e else e)

/-- A CLOSING entry whose last slot is freed becomes CLOSED (R13): GEN_CLOSED; the depth rule when the window is ARMED or
REWINDING; a pending quiet close becomes due when it is ARMED. -/
def generationClosed (w : WindowIdx) (m : GenEntry) (s : State) : State :=
  let v := s.window w
  let s1 := s.setWindow w { v with gens := mapNumber m.number (fun e => { e with state := .closed }) v.gens }
  let s2 := emit { kind := .genClosed, window := some w, generation := some m.number,
                   cause := m.closeCause.map Cause.close } s1
  let s3 := if v.state = .armed ∨ v.state = .rewinding then depthRule w s2 else s2
  if v.state = .armed ∧ v.quietClosePending = true then
    quietClose w (s3.modWindow w (fun u => { u with quietClosePending := false }))
  else s3

/-- The slots pending of a slot's generation fall by one; a CLOSING entry that reaches 0 becomes CLOSED (R13, R31). -/
def generationSlotFreed (w : WindowIdx) (g : Nat) (s : State) : State :=
  let s1 := s.modWindow w (fun v =>
    { v with gens := mapNumber g (fun e => { e with slotsPending := e.slotsPending - 1 }) v.gens })
  match (s1.window w).gens.find? (fun e => e.number == g) with
  | some m => if m.state = .closing ∧ m.slotsPending = 0 then generationClosed w m s1 else s1
  | none => s1

/-- A capture slot is freed (R41): slots pending, disarm completion when it was a DISARMING window's last, and a trigger for
re-examination. -/
def freeSlotAt (k : SlotIdx) (s : State) : State :=
  match s.slot k with
  | none => s
  | some sl =>
    let s1 := generationSlotFreed sl.window sl.generation (s.setSlot k none)
    let s2 :=
      if (s1.window sl.window).state = .disarming ∧ (s1.slotsOf sl.window).isEmpty = true then
        disarmCompletion sl.window s1
      else s1
    raiseTrigger s2

/-! ### Fault entry (R20, R42) -/

/-- A slot whose trigger is not to be forwarded any more. -/
def Slot.drop (sl : Slot) : Slot := { sl with dropped := true }

/-- A slot in READING or RECORDING (R20, R42, R43). -/
def Slot.beforeForwarding (sl : Slot) : Bool :=
  match sl.phase with
  | .reading => true
  | .recording => true
  | .voiding => false
  | .forwarding => false

/-- The trigger of a slot is answered FAULT unless it was dropped, and its flag is set (R35, R38, R42). -/
def refuseTrigger (k : SlotIdx) (s : State) : State :=
  match s.slot k with
  | none => s
  | some sl =>
    if sl.dropped then s
    else answer sl.trigger.requester sl.trigger.tag .fault none (s.setSlot k (some sl.drop))

/-- The triggers of a window's READING and RECORDING slots are refused (R20, R42). The manual gives no order among several slots;
from slot 0 up to slot 15 is the model's choice (log 22). -/
def refuseTriggers (w : WindowIdx) (s : State) : State :=
  (List.finRange 16).foldl (fun s k =>
    match s.slot k with
    | some sl => if sl.window = w ∧ sl.beforeForwarding = true then refuseTrigger k s else s
    | none => s) s

/-- A failure is reported for a window (R20, R22, R18): fault entry when it is ARMED or REWINDING, nothing otherwise. -/
def reportFailure (w : WindowIdx) (cause : FaultCause) (sequence : Option Seq) (line : Option Line) (s : State) : State :=
  let v := s.window w
  if v.state = .armed ∨ v.state = .rewinding then
    let s1 := s.setWindow w { v.quietStopped with
      state := .faulted, fault := some { cause := cause, sequence := sequence, line := line } }
    raiseTrigger
      (emit { kind := .windowFaulted, window := some w, cause := some (.fault cause), sequence := sequence, line := line }
        (refuseTriggers w s1))
  else s

end Sys2Proof.Machine
end

