-- ==== Sys2Proof/Machine/Capture.lean ====
section
/-! DEFINITION. The capture engine (chapter 2): the set-up of a capture, undo records (R36, R62, R63, R184), and what each answer
of a slot's memory operations does. -/

namespace Sys2Proof.Machine

open Sys2Proof

/-! ### Undo records (R36, R62 to R65, R184) -/

/-- The first 60 bytes of a record's header line (R36, R184). -/
def headerHead (kind : RecordKind) (w : WindowIdx) (requester : Requester) (g : Nat) (q : Seq) (l : Line) : List Byte :=
  padTo 60 (kind.code :: BitVec.ofNat 8 w.val :: BitVec.ofNat 8 requester.val :: 0x00 ::
    (leBytes 4 g ++ leBytes 4 q.toNat ++ leBytes 5 (Line.addr l)))

/-- A header line from its first 60 bytes and its record check, stored least significant byte first (R65, R184). -/
def headerLineOf (head : List Byte) (check : BitVec 32) : LineData := lineOfBytes (head ++ leBytes 4 check.toNat)

/-- The header line of a CAPTURE record (R62): the check covers the head and the 64 data bytes. -/
def captureHeader (sl : Slot) (data : LineData) : LineData :=
  let head := headerHead .capture sl.window sl.trigger.requester sl.generation sl.sequence sl.line
  headerLineOf head (crc32 (head ++ lineBytes data))

/-- The header line of a VOID record (R63): the check covers the head alone. -/
def voidHeader (sl : Slot) : LineData :=
  let head := headerHead .void sl.window sl.trigger.requester sl.generation sl.sequence sl.line
  headerLineOf head (crc32 head)

/-- The first 60 bytes of a header line that was read (R64, R65). -/
def headOf (h : LineData) : List Byte := (lineBytes h).take 60

/-- The record check that a header line carries (R184). -/
def checkOf (h : LineData) : BitVec 32 := BitVec.ofNat 32 (lineField h 60 4)

/-- The kind test of R64: exactly the two kind codes pass. -/
def kindOf (h : LineData) : Option RecordKind :=
  if lineField h 0 1 = 0x5A then some .capture else if lineField h 0 1 = 0xA5 then some .void else none

/-- The kind, window and sequence tests of R64: the kind when they pass. -/
def acceptHeader (w : WindowIdx) (q : Seq) (h : LineData) : Option RecordKind :=
  if lineField h 1 1 = w.val ∧ lineField h 8 4 = q.toNat then kindOf h else none

/-- The line address field of a header, as a byte address (R184). -/
def recordedAddress (h : LineData) : Nat := lineField h 12 5

/-- The line that a header names (R77). -/
def recordedLine (h : LineData) : Line := BitVec.ofNat 34 (recordedAddress h / 64)

/-- The line-address test of R64: low 6 bits zero, and in the window's range. -/
def addressValid (v : Window) (h : LineData) : Bool :=
  decide (recordedAddress h % 64 = 0) && v.covers (recordedLine h)

/-- The check test of R64 for a VOID record. -/
def voidCheckValid (h : LineData) : Bool := crc32 (headOf h) == checkOf h

/-- The check test of R64 for a CAPTURE record. -/
def captureCheckValid (h data : LineData) : Bool := crc32 (headOf h ++ lineBytes data) == checkOf h

/-! ### The set-up of a capture (R30, R33) -/

/-- One more slot pending in an entry (R31). -/
def GenEntry.addSlot (e : GenEntry) : GenEntry := { e with slotsPending := e.slotsPending + 1 }

/-- The trigger that a write is (R29, R30). -/
def triggerOf (r : SysRequest) : Trigger :=
  match r.op with
  | .read => { requester := r.requester, tag := r.tag, data := 0, enables := 0 }
  | .write data enables => { requester := r.requester, tag := r.tag, data := data, enables := enables }

/-- A write of an ARMED window is reported to the window's quiet timer (R92, R93, R94). -/
def reportPlacement (w : WindowIdx) (c : ReqClass) (s : State) : State :=
  s.modWindow w (fun v => { v with timer := v.timerAfterPlacement c })

/-- A slot just placed (R30, R33). -/
def slotFor (w : WindowIdx) (v : Window) (r : SysRequest) : Slot :=
  { phase := .reading, window := w, generation := v.openNumber, position := v.ring.head, sequence := v.ring.nextSeq,
    line := r.line, trigger := triggerOf r, dropped := false, headerAnswered := false, dataAnswered := false,
    writeFailed := false }

/-- A write is placed as the trigger of a free slot, its record reserved, its capture read handed to the CAPTURE source
(R30, R31, R33, R51, R131). The ring is not full. -/
def placeCapture (k : SlotIdx) (w : WindowIdx) (c : ReqClass) (r : SysRequest) (s : State) : State :=
  let sl := slotFor w (s.window w) r
  let s1 := (reserve w s).setSlot k (some sl)
  let s2 := s1.modWindow w (fun v => { v with gens := mapOpen GenEntry.addSlot v.gens })
  reportPlacement w c
    { s2 with captureQ := s2.captureQ ++ [{ owner := .capture k .captureRead, line := r.line, op := .read }] }

/-! ### Answers to a slot's memory operations (R34 to R40) -/

/-- The VOID header write is issued and the slot enters VOIDING (R35, R36, R131). -/
def issueVoid (k : SlotIdx) (sl : Slot) (s : State) : State :=
  let s1 := s.setSlot k (some { sl with phase := .voiding })
  let req : MemRequest :=
    { owner := .capture k .voidWrite, line := (s.window sl.window).headerLine sl.position,
      op := .write (voidHeader sl) allEnables }
  { s1 with captureQ := s1.captureQ ++ [req] }

/-- The two record-line writes are handed to the CAPTURE source together and the slot enters RECORDING (R34, R36). Their
order in the capture queue is a free value (R131, log 1). -/
def issueRecord (k : SlotIdx) (sl : Slot) (data : LineData) (s : State) : State :=
  let s1 := s.setSlot k (some { sl with phase := .recording })
  let v := s.window sl.window
  let header : MemRequest :=
    { owner := .capture k .headerWrite, line := v.headerLine sl.position,
      op := .write (captureHeader sl data) allEnables }
  let dataWrite : MemRequest :=
    { owner := .capture k .dataWrite, line := v.dataLine sl.position, op := .write data allEnables }
  { s1 with
    captureQ := s1.captureQ ++
      (if Config.headerWriteFirst s.freeCount then [header, dataWrite] else [dataWrite, header])
    freeCount := s.freeCount + 1 }

/-- The capture read of a slot is answered OK (R34): the window's state at the answer decides. For a window that was FAULTED and
is DISARMING by then, R42 reads otherwise; going by R34 is the model's choice (log 21). -/
def captureReadOk (k : SlotIdx) (sl : Slot) (data : LineData) (s : State) : State :=
  if (s.window sl.window).state = .faulted then freeSlotAt k s else issueRecord k sl data s

/-- CAPTURE_READ_ERROR of a slot (R35, R182). -/
def captureReadErrorEvent (sl : Slot) : EventBody :=
  { kind := .captureReadError, window := some sl.window, generation := some sl.generation, line := some sl.line,
    requester := some sl.trigger.requester, sequence := some sl.sequence }

/-- The capture read of a slot is answered ERROR (R35): the window's state at the answer decides, as in `captureReadOk`
(log 21). -/
def captureReadFailed (k : SlotIdx) (sl : Slot) (s : State) : State :=
  let s1 := emit (captureReadErrorEvent sl) (refuseTrigger k s)
  if (s.window sl.window).state = .faulted then freeSlotAt k s1 else issueVoid k sl.drop s1

/-- The trigger of a slot whose record is complete is appended to the forward queue (R37, R130). -/
def forwardTrigger (k : SlotIdx) (sl : Slot) (s : State) : State :=
  let s1 := s.setSlot k (some { sl with phase := .forwarding })
  let req : MemRequest :=
    { owner := .trigger k, line := sl.line, op := .write sl.trigger.data sl.trigger.enables }
  { s1 with forwardQ := s1.forwardQ ++ [req] }

/-- A slot with one more record write answered (R37, R38). -/
def Slot.writeAnswered (op : CaptureOp) (status : MemStatus) (sl : Slot) : Slot :=
  { sl with
    headerAnswered := sl.headerAnswered || decide (op = .headerWrite)
    dataAnswered := sl.dataAnswered || decide (op = .dataWrite)
    writeFailed := sl.writeFailed || decide (status = .error) }

/-- Both record writes have been answered (R37, R38). -/
def Slot.bothAnswered (sl : Slot) : Bool := sl.headerAnswered && sl.dataAnswered

/-- A slot's record is complete (R37): the insertion rule, then the slot is freed or its trigger forwarded. -/
def recordComplete (k : SlotIdx) (sl : Slot) (s : State) : State :=
  let s1 := filterInsert sl.window sl.generation sl.line s
  if sl.dropped then freeSlotAt k s1 else forwardTrigger k sl s1

/-- A record-line write of a RECORDING slot is answered (R37, R38). -/
def recordWriteAnswered (k : SlotIdx) (op : CaptureOp) (status : MemStatus) (sl : Slot) (s : State) : State :=
  let sl' := sl.writeAnswered op status
  let s1 := s.setSlot k (some sl')
  let s2 :=
    match status with
    | .ok => s1
    | .error => reportFailure sl.window .ringWriteError (some sl.sequence) (some sl.line) (refuseTrigger k s1)
  if sl'.bothAnswered then (if sl'.writeFailed then freeSlotAt k s2 else recordComplete k sl' s2) else s2

/-- The VOID header write of a VOIDING slot is answered (R39). -/
def voidWriteAnswered (k : SlotIdx) (status : MemStatus) (sl : Slot) (s : State) : State :=
  match status with
  | .ok => freeSlotAt k s
  | .error => freeSlotAt k (reportFailure sl.window .ringWriteError (some sl.sequence) (some sl.line) s)

/-- An answer is handed to the capture engine for an operation of a slot (R34 to R39, R135). -/
def captureAnswered (k : SlotIdx) (op : CaptureOp) (status : MemStatus) (data : LineData) (s : State) : State :=
  match s.slot k with
  | none => s
  | some sl =>
    match op with
    | .captureRead =>
      match status with
      | .ok => captureReadOk k sl data s
      | .error => captureReadFailed k sl s
    | .headerWrite => recordWriteAnswered k .headerWrite status sl s
    | .dataWrite => recordWriteAnswered k .dataWrite status sl s
    | .voidWrite => voidWriteAnswered k status sl s

/-- Status that a requester gets for a memory status (R40, R116). -/
def sysStatusOf : MemStatus → SysStatus
  | .ok => .done
  | .error => .fault

/-- The memory response, or the timeout, of a FORWARDING slot's trigger (R40): the requester is answered and the slot freed. -/
def triggerAnswered (k : SlotIdx) (status : MemStatus) (s : State) : State :=
  match s.slot k with
  | none => s
  | some sl => freeSlotAt k (answer sl.trigger.requester sl.trigger.tag (sysStatusOf status) none s)

end Sys2Proof.Machine
end

