-- ==== Sys2Proof/Machine/Rewind.lean ====
section
/-! DEFINITION. The rewind engine (chapter 4): the drain set, the end of the drain, the walk, completion, pause and resume, the
turn of the REWIND source. -/

namespace Sys2Proof.Machine

open Sys2Proof

/-! ### The drain (R69 to R71) -/

/-- The owners whose requests a drain of window `w` waits for (R69, R70): forwarded requests, triggers, capture reads, and
restore writes of `w` itself. -/
def Owner.drains (w : WindowIdx) : Owner → Bool
  | .request _ _ => true
  | .trigger _ => true
  | .capture _ .captureRead => true
  | .capture _ _ => false
  | .rewind u .restoreWrite => u == w
  | .rewind _ _ => false

/-- A request that keeps the drain of window `w`, with the record `v`, waiting: it names a line of the window (R69, R70). -/
def MemRequest.inDrain (w : WindowIdx) (v : Window) (r : MemRequest) : Bool := r.owner.drains w && v.covers r.line

/-- The drain set of a window is empty (R69): no forwarded request or trigger of its lines is queued or outstanding, no slot
names it, and no hold of its lines is left by a timed-out capture read or trigger or by a restore write of an earlier rewind of
the window. -/
def drainEmpty (s : State) (w : WindowIdx) : Bool :=
  let v := s.window w
  !s.forwardQ.any (·.inDrain w v) && (s.slotsOf w).isEmpty && !s.occupied.any (fun e => e.request.inDrain w v)

/-- The rewind context of a window changed by a function. -/
def modContext (w : WindowIdx) (f : RewindContext → RewindContext) (s : State) : State :=
  s.modWindow w (fun v => { v with rewind := v.rewind.map f })

/-! ### The turn of the REWIND source (R74, R132) -/

/-- The rewind operation of the window's record in hand waits to be handed to the memory port (R74). -/
def Window.rewindReady (v : Window) : Bool :=
  v.state == .rewinding && v.rewind.any (fun c => c.phase == .walk && c.inHand.any (·.ready))

/-- The memory operation of a record in hand at its stage (R75, R76, R77, R126). -/
def rewindRequest (w : WindowIdx) (v : Window) (r : RecordInHand) : MemRequest :=
  match r.stage with
  | .header => { owner := .rewind w .headerRead, line := v.headerLine r.position, op := .read }
  | .data => { owner := .rewind w .dataRead, line := v.dataLine r.position, op := .read }
  | .restore | .finished =>
    { owner := .rewind w .restoreWrite, line := recordedLine r.headerLine, op := .write r.dataLine allEnables }

/-- An operation of the REWIND source has been handed to the memory port and not yet been answered or timed out (R74, R132). -/
def rewindInFlight (s : State) : Bool :=
  s.rewindOffer.isSome || s.occupied.any (fun e => e.request.owner.source == .rewind && e.state != .late)

/-- The windows in the order of the turn: from the one after the window granted last, 15 followed by 0 (R74). -/
def turnOrder (last : WindowIdx) : List WindowIdx :=
  (List.finRange 16).map (fun i => ⟨(last.val + 1 + i.val) % 16, Nat.mod_lt _ (by decide)⟩)

/-- A window is granted the REWIND source: its operation is offered to the memory port (R74, R132). -/
def offerRewind (w : WindowIdx) (s : State) : State :=
  let v := s.window w
  match v.rewind.bind (·.inHand) with
  | none => s
  | some r =>
    let s1 := modContext w (fun c => { c with inHand := some { r with ready := false } }) s
    { s1 with rewindOffer := some (rewindRequest w v r), rewindLast := w }

/-- The REWIND source is granted to the next window with an operation ready, when none is in flight (R74). -/
def grantRewindSource (s : State) : State :=
  if rewindInFlight s then s
  else
    match (turnOrder s.rewindLast).find? (fun w => (s.window w).rewindReady) with
    | none => s
    | some w => offerRewind w s

/-! ### Completion and pause (R79, R80, R83) -/

/-- Completion of a rewind (R79, R80, R61). -/
def completeRewind (w : WindowIdx) (s : State) : State :=
  let v := s.window w
  match v.rewind with
  | none => s
  | some c =>
    match c.stop with
    | none => s
    | some f =>
      let taken := recordSum (fromTarget c.target v.gens)
      let s1 := s.setWindow w { v with
        ring := v.ring.truncated v.capacity v.highThreshold f.stopPosition taken f.stopSequence
        gens := olderThan c.target v.gens ++ [GenEntry.fresh (v.lastGen + 1)]
        lastGen := v.lastGen + 1 }
      let s2 := (depthRule w s1).modWindow w (fun u => { u with state := .armed, rewind := none })
      raiseTrigger
        (emit { kind := .rewindDone, window := some w, generation := some (v.lastGen + 1), target := some c.target,
                targetMoved := some c.targetMoved, restored := some c.restored, skipped := some c.skipped } s2)

/-- A pause takes effect (R83). -/
def pauseTakesEffect (w : WindowIdx) (s : State) : State :=
  let v := s.window w
  match v.rewind with
  | none => s
  | some c =>
    let s1 := s.setWindow w { v with state := .paused, rewind := some { c with pauseRequested := false } }
    raiseTrigger
      (emit { kind := .rewindPaused, window := some w, generation := some c.target, restored := some c.restored,
              skipped := some c.skipped, remaining := c.stop.map (·.remaining) } s1)

/-! ### The walk (R73, R75 to R77, R86) -/

/-- A record taken at a position with an expected sequence number (R73). -/
def RecordInHand.taken (p : Nat) (q : Seq) (redo : Bool) : RecordInHand :=
  { position := p, sequence := q, kind := none, stage := .header, redo := redo, ready := true, headerLine := 0,
    dataLine := 0 }

/-- The record at next position is taken (R73). -/
def takeRecord (w : WindowIdx) (s : State) : State :=
  modContext w (fun c => { c with inHand := c.stop.map (fun f => RecordInHand.taken f.nextPosition f.nextSequence false) }) s

/-- Next position moves to the position before it, next sequence expected falls by one (R73, R84). -/
def StopFields.back (capacity : Nat) (f : StopFields) : StopFields :=
  { f with nextPosition := prevPosition capacity f.nextPosition, nextSequence := f.nextSequence - 1 }

/-- The context once its record in hand is FINISHED (R73, R84): a redone record does not lower records remaining. -/
def RewindContext.finish (c : RewindContext) (r : RecordInHand) : RewindContext :=
  { c with
    inHand := some { r with stage := .finished, ready := false }
    stop := c.stop.map (fun f => { f with remaining := if r.redo then f.remaining else f.remaining - 1 }) }

/-- The record in hand becomes FINISHED (R73, R84): completion, pause, or the next record. -/
def finishRecord (w : WindowIdx) (c : RewindContext) (r : RecordInHand) (s : State) : State :=
  let c' := c.finish r
  let s1 := modContext w (fun _ => c') s
  match c'.stop with
  | none => s1
  | some f =>
    if f.remaining = 0 then completeRewind w s1
    else if c'.pauseRequested then pauseTakesEffect w s1
    else
      takeRecord w
        (modContext w (fun d => { d with stop := some (f.back (s.window w).capacity) }) s1)

/-- The record in hand of a window's walk, changed. -/
def setInHand (w : WindowIdx) (r : RecordInHand) (s : State) : State :=
  modContext w (fun c => { c with inHand := some r }) s

/-- A header read is answered OK (R75). -/
def headerReadOk (w : WindowIdx) (c : RewindContext) (r : RecordInHand) (h : LineData) (s : State) : State :=
  match acceptHeader w r.sequence h with
  | none => reportFailure w .recordBad (some r.sequence) none s
  | some .void =>
    if voidCheckValid h then
      finishRecord w { c with skipped := if r.redo then c.skipped else c.skipped + 1 }
        { r with kind := some .void, headerLine := h } s
    else reportFailure w .recordBad (some r.sequence) none s
  | some .capture =>
    setInHand w { r with kind := some .capture, stage := .data, ready := true, headerLine := h } s

/-- A data read is answered OK (R76). -/
def dataReadOk (w : WindowIdx) (r : RecordInHand) (d : LineData) (s : State) : State :=
  if addressValid (s.window w) r.headerLine && captureCheckValid r.headerLine d then
    setInHand w { r with stage := .restore, ready := true, dataLine := d } s
  else reportFailure w .recordBad (some r.sequence) none s

/-- A restore write is answered OK (R77). -/
def restoreOk (w : WindowIdx) (c : RewindContext) (r : RecordInHand) (s : State) : State :=
  finishRecord w { c with restored := if r.redo then c.restored else c.restored + 1 } r s

/-- A memory operation of a walk is answered ERROR, by response or timeout (R75, R76, R77, R86). -/
def walkFailure (w : WindowIdx) (op : RewindOp) (r : RecordInHand) (s : State) : State :=
  match op with
  | .headerRead => reportFailure w .ringReadError (some r.sequence) none s
  | .dataRead => reportFailure w .ringReadError (some r.sequence) none s
  | .restoreWrite => reportFailure w .restoreWriteError (some r.sequence) (some (recordedLine r.headerLine)) s

/-- The walk's step on an answer (R75 to R77, R86). -/
def walkAnswered (w : WindowIdx) (op : RewindOp) (status : MemStatus) (data : LineData) (c : RewindContext)
    (r : RecordInHand) (s : State) : State :=
  match status with
  | .error => walkFailure w op r s
  | .ok =>
    match op with
    | .headerRead => headerReadOk w c r data s
    | .dataRead => dataReadOk w r data s
    | .restoreWrite => restoreOk w c r s

/-- An answer is handed to the rewind engine for an operation of a window's walk; then the REWIND source turns (R74). A window
that is not REWINDING takes no answer (R87). -/
def rewindAnswered (w : WindowIdx) (op : RewindOp) (status : MemStatus) (data : LineData) (s : State) : State :=
  let s1 :=
    if (s.window w).state = .rewinding then
      match (s.window w).rewind with
      | none => s
      | some c =>
        match c.inHand with
        | none => s
        | some r => walkAnswered w op status data c r s
    else s
  grantRewindSource s1

/-! ### The end of the drain (R71) and resume (R84) -/

/-- The target check (R71, step 1): a target that the depth rule released gives way to the oldest entry. -/
def RewindContext.checkTarget (c : RewindContext) (gens : List GenEntry) : RewindContext :=
  if gens.any (fun e => e.number == c.target) then c
  else { c with target := (gens.head?.map (·.number)).getD 0, targetMoved := true }

/-- The stop fields at the end of the drain (R71, steps 2 and 3; R54). -/
def stopFieldsFor (v : Window) (target : Nat) : StopFields :=
  let older := recordSum (olderThan target v.gens)
  let remaining := recordSum (fromTarget target v.gens)
  let position := (v.ring.tail + older) % v.capacity
  let sequence := v.ring.tailSeq + BitVec.ofNat 32 older
  { stopPosition := position
    stopSequence := sequence
    remaining := remaining
    nextPosition := if 0 < remaining then prevPosition v.capacity v.ring.head else position
    nextSequence := if 0 < remaining then v.ring.nextSeq - 1 else sequence }

/-- The end of the drain (R71). -/
def endDrain (w : WindowIdx) (s : State) : State :=
  let v := s.window w
  match v.rewind with
  | none => s
  | some c0 =>
    let c1 := c0.checkTarget v.gens
    let f := stopFieldsFor v c1.target
    let c2 := { c1 with stop := some f }
    let s1 := modContext w (fun _ => c2) s
    if c2.pauseRequested then pauseTakesEffect w s1
    else if f.remaining = 0 then completeRewind w s1
    else grantRewindSource (takeRecord w (modContext w (fun c => { c with phase := .walk }) s1))

/-- The drain of a window ends when it is REWINDING in phase DRAIN and its drain set is empty (R69, R71, R72). -/
def drainMayEnd (s : State) (w : WindowIdx) : Bool :=
  (s.window w).state == .rewinding && (s.window w).rewind.any (fun c => c.phase == .drain) && drainEmpty s w

/-- The rewind continues at RESUME (R84). -/
def resumeRewind (w : WindowIdx) (s : State) : State :=
  let s1 := raiseTrigger (s.modWindow w (fun v =>
    { v with state := .rewinding, rewind := v.rewind.map (fun c => { c with phase := .walk }) }))
  match (s1.window w).rewind with
  | none => s1
  | some c =>
    match c.inHand with
    | some r => grantRewindSource (setInHand w (RecordInHand.taken r.position r.sequence true) s1)
    | none =>
      if (c.stop.map (·.remaining)).getD 0 = 0 then completeRewind w s1 else grantRewindSource (takeRecord w s1)

end Sys2Proof.Machine
end

