-- ==== Sys2Proof/Machine/Admission.lean ====
section
/-! DEFINITION. The admission unit and the system port (chapter 6): arrival answers, classification, the placement decision, the
park list, the re-examination. -/

namespace Sys2Proof.Machine

open Sys2Proof

/-! ### Classification (R108 to R110) -/

/-- What classification finds (R108, R109, R110). -/
inductive Classified where
  /-- A write into the ring area of the window: refused (R108). -/
  | trespass (w : WindowIdx)
  /-- A write of a READ_ONLY requester: refused (R110). -/
  | denied (w : WindowIdx)
  /-- In no window (R109), or a read of a ring area (R108). -/
  | untracked
  /-- In the window, with the requester's class (R109). -/
  | tracked (w : WindowIdx) (c : ReqClass)
  deriving DecidableEq, Repr

/-- The window, not UNUSED, whose ring area contains a line (R108). -/
def ringAreaOf (s : State) (l : Line) : Option WindowIdx :=
  (List.finRange 16).find? (fun w => (s.window w).state != .unused && (s.window w).ringCovers l)

/-- The window, not UNUSED, whose range contains a line (R109). -/
def windowAt (s : State) (l : Line) : Option WindowIdx :=
  (List.finRange 16).find? (fun w => (s.window w).state != .unused && (s.window w).covers l)

/-- Classification of a request (R108 to R110). -/
def classify (s : State) (r : SysRequest) : Classified :=
  match ringAreaOf s r.line with
  | some w => if r.op.isWrite then .trespass w else .untracked
  | none =>
    match windowAt s r.line with
    | none => .untracked
    | some w =>
      let c := (s.window w).classOf r.requester
      if r.op.isWrite && c == .readOnly then .denied w else .tracked w c

/-- TRESPASS (R108, R125, R183). -/
def trespassEvent (w : WindowIdx) (r : SysRequest) : EventBody :=
  { kind := .trespass, window := some w, requester := some r.requester, line := some r.line }

/-- DENIED_WRITE (R110, R125, R183). -/
def deniedEvent (w : WindowIdx) (r : SysRequest) : EventBody :=
  { kind := .deniedWrite, window := some w, requester := some r.requester, line := some r.line }

/-- TAG_REUSE (R106, R125, R183). -/
def tagReuseEvent (r : SysRequest) : EventBody :=
  { kind := .tagReuse, requester := some r.requester, tag := some r.tag, line := some r.line }

/-! ### The placement decision (R115) -/

/-- What the placement decision does with a request: it is placed or answered, or it parks with a reason. -/
inductive Verdict where
  | gone
  | parks (reason : ParkReason)
  deriving DecidableEq, Repr

/-- A request is answered FAULT (R115, R117, R57, R58). -/
def answerFault (r : SysRequest) (s : State) : State := answer r.requester r.tag .fault none s

/-- A request is forwarded: it is appended to the forward queue and its hold begins (R116, R130). -/
def forward (r : SysRequest) (s : State) : State :=
  { s with forwardQ := s.forwardQ ++ [{ owner := .request r.requester r.tag, line := r.line, op := r.op }] }

/-- The ring is full for a write and its policy turns it away (R55 to R58). -/
def ringFullOutcome (w : WindowIdx) (r : SysRequest) (s : State) : Verdict × State :=
  let s1 := turnedAway w r.requester r.line s
  match (s.window w).policy with
  | .hold => (.parks .ringFull, s1)
  | .refuse => (.gone, answerFault r s1)
  | .reclaim => (.gone, answerFault r s1)

/-- The releases that RECLAIM makes before a reservation (R58); the other policies make none. -/
def makeRoom (w : WindowIdx) (s : State) : State :=
  if (s.window w).policy = .reclaim then reclaimLoop w (s.window w).gens.length s else s

/-- The capture set-up of R30: a free slot, then a reservation, then the placement. -/
def captureSetUp (w : WindowIdx) (c : ReqClass) (r : SysRequest) (s : State) : Verdict × State :=
  match s.freeSlot with
  | none => (.parks .noSlot, s)
  | some k =>
    let s1 := makeRoom w s
    if (s1.window w).ringIsFull then ringFullOutcome w r s1 else (.gone, placeCapture k w c r s1)

/-- The decision of a request whose line is not busy, in an ARMED window (R115, step 4). -/
def placeArmed (w : WindowIdx) (c : ReqClass) (r : SysRequest) (s : State) : Verdict × State :=
  if r.op.isWrite then
    if filterHit s w r.line then (.gone, reportPlacement w c (forward r s)) else captureSetUp w c r s
  else (.gone, forward r s)

/-- The decision when neither a fault nor the fence applies (R115, steps 3 and 4). -/
def placeOpen (older : List ParkEntry) (armed : Option (WindowIdx × ReqClass)) (r : SysRequest) (s : State) :
    Verdict × State :=
  if lineBusy older s r.line then (.parks .lineBusy, s)
  else
    match armed with
    | none => (.gone, forward r s)
    | some (w, c) => placeArmed w c r s

/-- The fence (R117). -/
def fenced (w : WindowIdx) (r : SysRequest) (s : State) : Verdict × State :=
  match (s.window w).fence with
  | .hold => (.parks .fenced, s)
  | .refuse => (.gone, answerFault r s)

/-- The placement decision (R115). `older` are the park-list entries older than the request. -/
def placementDecision (older : List ParkEntry) (place : Option (WindowIdx × ReqClass)) (r : SysRequest) (s : State) :
    Verdict × State :=
  match place with
  | none => placeOpen older none r s
  | some (w, c) =>
    match (s.window w).state with
    | .faulted => (.gone, answerFault r s)
    | .rewinding => fenced w r s
    | .paused => fenced w r s
    | .unused => placeOpen older none r s
    | .defined => placeOpen older none r s
    | .disarming => placeOpen older none r s
    | .armed => placeOpen older (some (w, c)) r s

/-- Classification, its refusals, and the placement decision of an admitted request (R108 to R110, R115). The result names the
window and class that the request carries if it parks. -/
def decideFresh (older : List ParkEntry) (r : SysRequest) (s : State) :
    Option (WindowIdx × ReqClass) × Verdict × State :=
  match classify s r with
  | .trespass w => (none, .gone, emit (trespassEvent w r) (answerFault r s))
  | .denied w => (none, .gone, emit (deniedEvent w r) (answerFault r s))
  | .untracked => (none, placementDecision older none r s)
  | .tracked w c => (some (w, c), placementDecision older (some (w, c)) r s)

/-! ### Arrivals (R105 to R107, R118) -/

/-- A WRITE with no byte enable set (R107). -/
def emptyWrite (r : SysRequest) : Bool :=
  match r.op with
  | .read => false
  | .write _ enables => enables == 0

/-- A request is admitted (R105). -/
def takeIn (r : SysRequest) (s : State) : State := { s with admitted := s.admitted ++ [(r.requester, r.tag)] }

/-- The request is decided as an arrival (R105 to R107, R115, R118). When it must park and the list is full it becomes the
waiting arrival, with nothing else done (R118, log 9). -/
def arrive (r : SysRequest) (s : State) : State :=
  if s.admitted.contains (r.requester, r.tag) then
    emit (tagReuseEvent r) (respond { requester := r.requester, tag := r.tag, status := .fault, data := none } s)
  else if emptyWrite r then
    respond { requester := r.requester, tag := r.tag, status := .done, data := none } s
  else
    match decideFresh s.park r (takeIn r s) with
    | (_, .gone, s1) => s1
    | (place, .parks reason, s1) =>
      if s.park.length < 32 then
        { s1 with park := s1.park ++ [{ request := r, place := place, reason := reason }] }
      else { s with waiting := some r }

/-- The system port is open to a request: the three conditions of R105, outside POR (R190). -/
def canTake (s : State) : Bool :=
  !s.por && !s.srst && s.waiting.isNone && decide (s.admitted.length + s.responses.length < 64)

/-! ### The re-examination (R111, R118, R120, R193 to R196) -/

/-- The decision of a park-list entry (R111, R120): classified afresh when it names no window. -/
def decideParked (older : List ParkEntry) (e : ParkEntry) (s : State) :
    Option (WindowIdx × ReqClass) × Verdict × State :=
  match e.place with
  | none => decideFresh older e.request s
  | some p => (some p, placementDecision older (some p) e.request s)

/-- The waiting arrival is decided again as a new arrival (R118, R120). -/
def decideWaiting (s : State) : State :=
  match s.waiting with
  | none => s
  | some r => arrive r { s with waiting := none }

/-- A pass is owed: a trigger waits for one, or one is in progress (R119, R120, R194). -/
def passOwed (s : State) : Bool := s.reexamDue || s.pass.isSome

/-- A pass begins, and the trigger is served (R120); a pass in progress goes on, with its trigger for a further one kept
(R194). -/
def beginPass (s : State) : State := if s.pass.isSome then s else { s with pass := some 0, reexamDue := false }

/-- The entry at place `n` of the park list is decided (R120): it leaves the list, or it stays in its place with the reason of
the new decision. The `n` entries before it are the older ones. -/
def decideEntry (n : Nat) (e : ParkEntry) (s : State) : State :=
  match decideParked (s.park.take n) e s with
  | (_, .gone, s1) => { s1 with park := s.park.eraseIdx n }
  | (place, .parks reason, s1) =>
    { s1 with park := s.park.set n { e with place := place, reason := reason }, pass := some (n + 1) }

/-- One decision of a pass (R120): the oldest entry not yet reached, or, after the last entry, the waiting arrival, with which
the pass ends. Other things can be taken between two decisions (R195, R196; log 17). -/
def passStep (s : State) : State :=
  let s0 := beginPass s
  let n := s0.pass.getD 0
  match s0.park[n]? with
  | some e => decideEntry n e s0
  | none => decideWaiting { s0 with pass := none }

/-- A number of decisions. -/
def passSteps : Nat → State → State
  | 0, s => s
  | n + 1, s => passSteps n (passStep s)

/-- The decisions that the pass has left: one for each entry not yet reached, and the waiting arrival's (R120). -/
def decisionsLeft (s : State) : Nat := s.park.length - s.pass.getD 0 + 1

/-- A re-examination to its end, from its beginning or from where the pass in progress stands (R120). -/
def finishPass (s : State) : State := passSteps (decisionsLeft s) s

/-- Passes while one is owed, at most so many. -/
def settleWithin : Nat → State → State
  | 0, s => s
  | n + 1, s => if passOwed s then settleWithin n (finishPass s) else s

/-- The passes owed are made, further passes included (R120, R194). A pass raises a trigger only by a release under RECLAIM
(R58, R59), so there are at most two more passes than entries in the generation lists. -/
def settle (s : State) : State :=
  settleWithin ((s.windows.toList.map (fun v => v.gens.length)).sum + 2) s

/-! ### The window table's part in the park list, and placed writes (R111, R112) -/

/-- DEFINE and DELETE take the window and class from every park-list entry that names the window (R111). -/
def unplaceParked (w : WindowIdx) (s : State) : State :=
  { s with park := s.park.map (fun e => if e.place.any (fun p => p.1 == w) then { e with place := none } else e) }

/-- A placed system-port write names a line of a range of bytes (R112): in the forward queue, in an occupied entry of the
outstanding table, or as the trigger of a slot. -/
def placedWriteIn (s : State) (base size : Nat) : Bool :=
  let inside (l : Line) : Bool := decide (base ≤ Line.addr l) && decide (Line.addr l < base + size)
  s.forwardQ.any (fun r => r.op.isWrite && inside r.line) ||
    s.occupied.any (fun e => e.request.owner.source == .forward && e.request.op.isWrite && inside e.request.line) ||
    s.busySlots.any (fun k => inside k.line)

end Sys2Proof.Machine
end

