-- ==== Sys2Proof/Machine/Reports.lean ====
section
/-! DEFINITION. Response frames and their data: STATUS, QUERY pages, event records (R148, R166 to R169, R186 to R189). -/

namespace Sys2Proof.Machine

open Sys2Proof

/-- A response frame of 64 bytes (R148, R186): status, command echo, command number, 60 data bytes, CRC-8 of the 63 before. -/
def responseFrame (status : Status) (echo : Byte) (number : Byte) (data : List Byte) : List Byte :=
  let body := status.code :: echo :: number :: padTo 60 data
  body ++ [crc8 body]

/-- A flag in a bit of a byte (R187, R188). -/
def flagBit (b : Bool) (i : Nat) : Nat := if b then 2 ^ i else 0

/-- Four bytes of an optional number; an absent one reads 0 (R186). -/
def opt4 (o : Option Nat) : List Byte := leBytes 4 (o.getD 0)

/-- One byte of an optional code; an absent one reads 0 (R186). -/
def opt1 (o : Option Byte) : List Byte := [o.getD 0]

/-- Five bytes of an optional line address; an absent one reads 0 (R186). -/
def optLine (o : Option Line) : List Byte := leBytes 5 ((o.map Line.addr).getD 0)

/-- STATUS data (R163, R187). -/
def statusData (s : State) : List Byte :=
  [0x46, 0x4C, 0x32, 0x34, BitVec.ofNat 8 Config.siliconRevision, BitVec.ofNat 8 s.admitted.length,
    BitVec.ofNat 8 s.park.length, flagByte s.waiting.isSome, BitVec.ofNat 8 s.busySlots.length,
    BitVec.ofNat 8 s.occupied.length] ++ leBytes 2 s.timeout.toNat ++
    [BitVec.ofNat 8 s.events.length, flagByte s.lost, flagByte s.attnEnable]

/-- The window flags of page 0, byte 16 (R187). -/
def windowFlags (v : Window) : Byte :=
  BitVec.ofNat 8 (flagBit v.fault.isSome 0 + flagBit v.rewind.isSome 1 + flagBit v.binding.isSome 2 +
    flagBit v.autoClose 3 + 16 * v.quietTick.code.toNat)

/-- The ring and timer flags of page 0, byte 59 (R187). -/
def ringTimerFlags (v : Window) : Byte :=
  BitVec.ofNat 8 (flagBit v.ring.full 0 + flagBit v.ring.high 1 + flagBit v.timer.running 2 + flagBit v.timer.lapsed 3 +
    flagBit v.quietClosePending 4)

/-- QUERY page 0, bytes 5 to 62 (R166, R187). -/
def page0 (s : State) (w : WindowIdx) : List Byte :=
  let v := s.window w
  [v.state.code] ++ leBytes 5 v.base.toNat ++ leBytes 5 v.size ++
    [windowFlags v, v.fence.code, v.policy.code, BitVec.ofNat 8 v.depth] ++ leBytes 2 v.quietReload ++
    leBytes 5 ((v.binding.map (·.base.toNat)).getD 0) ++ leBytes 3 ((v.binding.map (·.blocks)).getD 0) ++
    leBytes 4 v.highThreshold ++ leBytes 4 v.capacity ++ leBytes 4 v.lastGen ++ [BitVec.ofNat 8 v.gens.length] ++
    leBytes 4 v.ring.tail ++ leBytes 4 v.ring.head ++ leBytes 4 v.ring.occupancy ++ leBytes 4 v.ring.nextSeq.toNat ++
    [ringTimerFlags v] ++ leBytes 2 (if v.timer.running then v.timer.remaining else 0) ++
    [BitVec.ofNat 8 (s.slotsOf w).length]

/-- One entry of page 1: eleven bytes (R188). -/
def entryBytes (e : GenEntry) : List Byte :=
  leBytes 4 e.number ++ [e.state.code] ++ opt1 (e.closeCause.map CloseCause.code) ++ leBytes 4 e.recordCount ++
    [BitVec.ofNat 8 e.slotsPending]

/-- QUERY page 1 (R167, R188). -/
def page1 (v : Window) : List Byte := BitVec.ofNat 8 v.gens.length :: v.gens.flatMap entryBytes

/-- The context flags of page 2, byte 5 (R188). -/
def contextFlags (v : Window) : Byte :=
  BitVec.ofNat 8 (flagBit v.rewind.isSome 0 + flagBit (v.rewind.any (·.targetMoved)) 1 +
    flagBit (v.rewind.any (·.pauseRequested)) 2 + flagBit (v.rewind.any (·.stop.isSome)) 3 +
    flagBit (v.rewind.any (·.inHand.isSome)) 4 + flagBit ((v.rewind.bind (·.inHand)).any (·.redo)) 5)

/-- The fault flags of page 2, byte 49 (R188). -/
def faultFlags (v : Window) : Byte :=
  BitVec.ofNat 8 (flagBit v.fault.isSome 0 + flagBit (v.fault.any (·.sequence.isSome)) 1 +
    flagBit (v.fault.any (·.line.isSome)) 2)

/-- QUERY page 2 (R168, R188). -/
def page2 (v : Window) : List Byte :=
  let stop := v.rewind.bind (·.stop)
  let hand := v.rewind.bind (·.inHand)
  [contextFlags v] ++ opt1 (v.rewind.map (·.phase.code)) ++ opt4 (v.rewind.map (·.target)) ++
    opt4 (stop.map (·.stopPosition)) ++ opt4 (stop.map (·.stopSequence.toNat)) ++ opt4 (stop.map (·.remaining)) ++
    opt4 (stop.map (·.nextPosition)) ++ opt4 (stop.map (·.nextSequence.toNat)) ++ opt4 (v.rewind.map (·.restored)) ++
    opt4 (v.rewind.map (·.skipped)) ++ opt4 (hand.map (·.position)) ++ opt4 (hand.map (·.sequence.toNat)) ++
    opt1 (hand.bind (fun r => r.kind.map RecordKind.code)) ++ opt1 (hand.map (·.stage.code)) ++ [faultFlags v] ++
    opt1 (v.fault.map (·.cause.code)) ++ opt4 (v.fault.bind (fun f => f.sequence.map BitVec.toNat)) ++
    optLine (v.fault.bind (·.line))

/-- The byte of page 3 that holds the classes of requesters 4j to 4j+3, the first in bits 1 and 0 (R188). -/
def classByte (v : Window) (j : Fin 16) : Byte :=
  let code (i : Fin 4) : Nat := (v.classes[4 * j.val + i.val]).code.toNat
  BitVec.ofNat 8 (code 0 + 4 * code 1 + 16 * code 2 + 64 * code 3)

/-- QUERY page 3 (R169, R188). -/
def page3 (v : Window) : List Byte := (List.finRange 16).map (classByte v)

/-- A QUERY page, as bytes 5 to 62 of the response (R166). -/
def queryPage (s : State) (w : WindowIdx) : Nat → List Byte
  | 0 => page0 s w
  | 1 => page1 (s.window w)
  | 2 => page2 (s.window w)
  | _ => page3 (s.window w)

/-- Bytes 2 and 3 of an event record: one presence bit for each detail item (R189). -/
def detailPresence (b : EventBody) : Nat :=
  flagBit b.cause.isSome 0 + flagBit b.requester.isSome 1 + flagBit b.tag.isSome 2 + flagBit b.line.isSome 3 +
    flagBit b.sequence.isSome 4 + flagBit b.source.isSome 5 + flagBit b.occupancy.isSome 6 + flagBit b.target.isSome 7 +
    flagBit b.targetMoved.isSome 8 + flagBit b.exhausted.isSome 9 + flagBit b.restored.isSome 10 +
    flagBit b.skipped.isSome 11 + flagBit b.remaining.isSome 12

/-- The 46 bytes of an event record (R189). -/
def eventBytes (e : Event) : List Byte :=
  let b := e.body
  [b.kind.code, BitVec.ofNat 8 (flagBit b.window.isSome 0 + flagBit b.generation.isSome 1)] ++
    leBytes 2 (detailPresence b) ++ leBytes 2 e.serial.toNat ++ opt1 (b.window.map (fun w => BitVec.ofNat 8 w.val)) ++
    opt4 b.generation ++ opt1 (b.cause.map Cause.code) ++ opt1 (b.requester.map (fun r => BitVec.ofNat 8 r.val)) ++
    opt1 b.tag ++ optLine b.line ++ opt4 (b.sequence.map BitVec.toNat) ++ opt1 (b.source.map Source.code) ++
    opt1 (b.targetMoved.map flagByte) ++ opt1 (b.exhausted.map flagByte) ++ opt4 b.occupancy ++ opt4 b.target ++
    opt4 b.restored ++ opt4 b.skipped ++ opt4 b.remaining

end Sys2Proof.Machine
end

