-- ==== Sys2Proof/Machine/MemoryPort.lean ====
section
/-! DEFINITION. The memory port (chapter 7): grants, issue, responses, timeouts, late responses. -/

namespace Sys2Proof.Machine

open Sys2Proof

/-! ### Grant and issue (R133, R134) -/

/-- Some entry is PRESENTED (R133). -/
def somePresented (s : State) : Bool := s.occupied.any (fun e => e.state == .presented)

/-- A source is ready (R130, R131, R132). -/
def sourceReady (s : State) : Source → Bool
  | .forward => !s.forwardQ.isEmpty
  | .capture => !s.captureQ.isEmpty
  | .rewind => s.rewindOffer.isSome

/-- The sources in the order of the next grant: the cycle FORWARD, CAPTURE, REWIND after the source granted last (R133). -/
def sourceOrder : Source → List Source
  | .forward => [.capture, .rewind, .forward]
  | .capture => [.rewind, .forward, .capture]
  | .rewind => [.forward, .capture, .rewind]

/-- The source that the arbiter takes (R133). -/
def nextSource (s : State) : Option Source := (sourceOrder s.lastSource).find? (sourceReady s)

/-- The request of a source, which is its oldest (R130 to R132). -/
def sourceRequest (s : State) : Source → Option MemRequest
  | .forward => s.forwardQ.head?
  | .capture => s.captureQ.head?
  | .rewind => s.rewindOffer

/-- A granted request leaves its source (R130 to R132). -/
def takeFromSource (s : State) : Source → State
  | .forward => { s with forwardQ := s.forwardQ.tail }
  | .capture => { s with captureQ := s.captureQ.tail }
  | .rewind => { s with rewindOffer := none }

/-- An entry just granted (R128, R134). -/
def OutEntry.granted (r : MemRequest) : OutEntry := { state := .presented, request := r, orphaned := false, timeLeft := 0 }

/-- A grant of the arbiter (R133, R134): when an entry is FREE, none is PRESENTED and a source is ready. -/
def grant (s : State) : State :=
  if somePresented s then s
  else
    match s.freeEntry, nextSource s with
    | some t, some src =>
      match sourceRequest s src with
      | none => s
      | some r =>
        let s1 := takeFromSource s src
        { s1.setEntry t (some (OutEntry.granted r)) with lastSource := src }
    | _, _ => s

/-- The PRESENTED entry (R134). -/
def presentedTicket (s : State) : Option Ticket :=
  (List.finRange 48).find? (fun t => (s.entry t).any (fun e => e.state == .presented))

/-- The DRAM controller accepts the PRESENTED request: it becomes WAITING with the timeout in force (R134, R137). -/
def issue (s : State) : State :=
  match presentedTicket s with
  | none => s
  | some t =>
    match s.entry t with
    | none => s
    | some e => s.setEntry t (some { e with state := .waiting, timeLeft := s.timeout.toNat })

/-! ### Answers to the owner (R135) -/

/-- The data handed over with a status: only for a READ answered OK (R127, R135). -/
def answerData (op : MemOp) (status : MemStatus) (data : LineData) : Option LineData :=
  match op, status with
  | .read, .ok => some data
  | .read, .error => none
  | .write _ _, _ => none

/-- The status of a request is handed to its owner (R135). -/
def handToOwner (r : MemRequest) (status : MemStatus) (data : LineData) (s : State) : State :=
  match r.owner with
  | .request requester tag => answer requester tag (sysStatusOf status) (answerData r.op status data) s
  | .trigger k => triggerAnswered k status s
  | .capture k op => captureAnswered k op status data s
  | .rewind w op => rewindAnswered w op status data s

/-- The arrival of a response is reported to the holders of lines (R135, R139, R140). -/
def reportArrival (r : MemRequest) (s : State) : State := if r.owner.holdsLine then reportHoldEnd r.line s else s

/-- The slot of an orphaned trigger is freed when the trigger's response arrives (R43, R140). A slot that was freed at a timeout
before the reset, and taken again since, has another line and is left alone (log 10). -/
def freeOrphanedSlot (r : MemRequest) (s : State) : State :=
  match r.owner with
  | .request _ _ => s
  | .trigger k =>
    if (s.slot k).any (fun sl => sl.phase == .forwarding && sl.line == r.line) then freeSlotAt k s else s
  | .capture _ _ => s
  | .rewind _ _ => s

/-- A response for a WAITING entry (R135, R140). -/
def onTime (e : OutEntry) (status : MemStatus) (data : LineData) (s : State) : State :=
  let s1 := if e.orphaned then freeOrphanedSlot e.request s else handToOwner e.request status data s
  reportArrival e.request s1

/-- A response for a LATE entry (R139, R140): its status and data are discarded. -/
def late (e : OutEntry) (s : State) : State :=
  reportArrival e.request (if e.orphaned then freeOrphanedSlot e.request s else s)

/-- A memory-port response is taken (R127, R135, R136, R139). -/
def takeResponse (t : Ticket) (status : MemStatus) (data : LineData) (s : State) : State :=
  match s.entry t with
  | none => s
  | some e =>
    match e.state with
    | .presented => s
    | .waiting => onTime e status data (s.setEntry t none)
    | .late => late e (s.setEntry t none)

/-! ### The timeout (R138) -/

/-- The window that MEMORY_TIMEOUT carries for an owner (R138, R182). -/
def ownerWindow (s : State) : Owner → Option WindowIdx
  | .request _ _ => none
  | .trigger _ => none
  | .capture k _ => (s.slot k).map (·.window)
  | .rewind w _ => some w

/-- The requester that MEMORY_TIMEOUT carries for an owner (R138, R182). -/
def ownerRequester (s : State) : Owner → Option Requester
  | .request requester _ => some requester
  | .trigger k => (s.slot k).map (·.trigger.requester)
  | .capture _ _ => none
  | .rewind _ _ => none

/-- MEMORY_TIMEOUT of an entry (R138, R182). -/
def timeoutEvent (s : State) (r : MemRequest) : EventBody :=
  { kind := .memoryTimeout, window := ownerWindow s r.owner, requester := ownerRequester s r.owner, line := some r.line,
    source := some r.owner.source }

/-- The timeout of an entry is due: it is WAITING with no time left (R138). -/
def OutEntry.due (e : OutEntry) : Bool := e.state == .waiting && e.timeLeft == 0

/-- The timeout of an entry is taken when it is due (R138, R140); otherwise nothing happens (log 6). -/
def takeTimeout (t : Ticket) (s : State) : State :=
  match s.entry t with
  | none => s
  | some e =>
    if e.due then
      let s1 := emit (timeoutEvent s e.request) (s.setEntry t (some { e with state := .late }))
      if e.orphaned then s1 else handToOwner e.request .error 0 s1
    else s

end Sys2Proof.Machine
end

