-- ==== Sys2Proof/Machine/Resets.lean ====
section
/-! DEFINITION. The two resets and their releases (R43, R88, R123, R124, R140 to R142, R179, R190). -/

namespace Sys2Proof.Machine

open Sys2Proof

/-- SRST_N drops the triggers of READING and RECORDING slots (R43). -/
def dropTriggers (slots : Vector (Option Slot) 16) : Vector (Option Slot) 16 :=
  slots.map (fun o => o.map (fun sl => if sl.beforeForwarding then sl.drop else sl))

/-- SRST_N marks every FORWARD entry of the outstanding table orphaned (R140). -/
def orphanForward (table : Vector (Option OutEntry) 48) : Vector (Option OutEntry) 48 :=
  table.map (fun o => o.map (fun e => if e.request.owner.source = .forward then { e with orphaned := true } else e))

/-- The trigger of a FORWARDING slot is discarded with the forward queue: its slot is freed (R43, R140). -/
def discardForwarded (r : MemRequest) (s : State) : State :=
  match r.owner with
  | .request _ _ => s
  | .trigger k => freeSlotAt k s
  | .capture _ _ => s
  | .rewind _ _ => s

/-- What the assertion of SRST_N discards at once (R43, R104, R118, R123, R140). A pass in progress ends; the further pass owed to
a trigger would find an empty park list, so none is left owed (R195). -/
def discardForReset (s : State) : State :=
  { s with
    srst := true
    park := []
    waiting := none
    responses := []
    admitted := []
    reexamDue := false
    pass := none
    forwardQ := []
    slots := dropTriggers s.slots
    table := orphanForward s.table }

/-- Assertion of SRST_N (R123). The slots of the triggers discarded from the forward queue are freed one after the other, and the
manual gives no order: oldest in the queue first is the model's choice (log 23). -/
def assertSrst (s : State) : State :=
  s.forwardQ.foldl (fun s r => discardForwarded r s) (discardForReset s)

/-- Assertion of POR_N (R124, R141, R142, R179): every block in its initial state. The level of SRST_N is not the part's own, and
the queue of commands is outside it (log 7). -/
def assertPor (s : State) : State :=
  { State.reset with por := true, srst := s.srst, freeCount := s.freeCount, pending := s.pending }

/-- While POR_N is asserted nothing is taken and nothing moves (R142, R179, R190). -/
def unlessPor (f : State → State) (s : State) : State := if s.por then s else f s

end Sys2Proof.Machine
end

