-- ==== Sys2Proof/Machine/Management.lean ====
section
/-! DEFINITION. The management port (chapter 8): the decision of the sixteen commands (R149 to R166), UNKNOWN_COMMAND (R150) and
FRAME_ERROR (R145). -/

namespace Sys2Proof.Machine

open Sys2Proof

/-! ### A taken command (R144, R149, R150) -/

/-- What a decision answers: a status and the data bytes 3 and up (R148). -/
structure Reply where
  status : Status
  data : List Byte
  deriving DecidableEq, Repr

/-- A command that is refused: the status, no data and no effect (R148, R149). -/
def refuse (status : Status) (s : State) : Reply × State := ({ status := status, data := [] }, s)

/-- The state `t` that a decision made, after the command taken in `s`: the command number has risen by one, wrapping, and the
response with that number is held (R144, R148). -/
def taken (status : Status) (echo : Byte) (data : List Byte) (s t : State) : State :=
  { t with cmdNumber := s.cmdNumber + 1, held := responseFrame status echo (s.cmdNumber + 1) data }

/-- A command is taken: it is decided against the state as it stands, and its response becomes the held response (R144, R148,
R149). No decision looks at the command number. -/
def takeCommand (echo : Byte) (decision : State → Reply × State) (s : State) : State :=
  unlessPor (fun s => taken (decision s).1.status echo (decision s).1.data s (decision s).2) s

/-- The window-index test of R150. -/
def onWindow (b : Byte) (f : WindowIdx → State → Reply × State) (s : State) : Reply × State :=
  match windowOfByte b with
  | none => refuse .badWindow s
  | some w => f w s

/-! ### Defining a window (R151 to R155) -/

/-- Two ranges of bytes overlap. -/
def rangesOverlap (a n b m : Nat) : Bool := decide (a < b + m) && decide (b < a + n)

/-- A range overlaps the range of a window that is not UNUSED, other than the ones excepted (R151, R153). -/
def overlapsWindow (s : State) (except : WindowIdx → Bool) (base size : Nat) : Bool :=
  (List.finRange 16).any (fun w =>
    !except w && (s.window w).state != .unused && rangesOverlap base size (s.window w).base.toNat (s.window w).size)

/-- A range overlaps the ring area of a window other than `w` (R151, R153). -/
def overlapsRing (s : State) (w : WindowIdx) (base size : Nat) : Bool :=
  (List.finRange 16).any (fun u =>
    u != w && (s.window u).state != .unused &&
      (s.window u).binding.any (fun b => rangesOverlap base size b.base.toNat b.bytes))

/-- The parameters of DEFINE are in range (R151). -/
def defineInRange (base size : BitVec 40) : Bool :=
  decide (base.toNat % 4096 = 0) && decide (size.toNat % 4096 = 0) && decide (4096 ≤ size.toNat) &&
    decide (size.toNat ≤ 2 ^ 36) && decide (base.toNat + size.toNat ≤ 2 ^ 40)

/-- A window record after DEFINE (R1, R2). The ring state of a window that is not armed is its value after POR (R47, R48). -/
def Window.afterDefine (v : Window) (base size : BitVec 40) : Window :=
  { Window.afterPor with state := .defined, base := base, size := size.toNat, ring := v.ring }

/-- DEFINE taken (R2, R28, R111). -/
def defineEffect (w : WindowIdx) (base size : BitVec 40) (s : State) : State :=
  raiseTrigger (unplaceParked w (filterRemove w (s.modWindow w (fun v => v.afterDefine base size))))

/-- The decision of DEFINE (R151). -/
def decideDefine (base size : BitVec 40) (w : WindowIdx) (s : State) : Reply × State :=
  if (s.window w).state ≠ .unused ∧ (s.window w).state ≠ .defined then refuse .badState s
  else if defineInRange base size = false then refuse .badParam s
  else if overlapsWindow s (· == w) base.toNat size.toNat || overlapsRing s w base.toNat size.toNat then
    refuse .overlap s
  else ({ status := .done, data := leBytes 5 base.toNat ++ leBytes 5 size.toNat }, defineEffect w base size s)

/-- The six values of a CONFIGURE frame when all are in range (R152). -/
def configureValues (v : Window) (fence policy depth : Byte) (reload : BitVec 16) (tick autoClose : Byte) : Option Window :=
  match fenceOfByte fence, policyOfByte policy, depthOfByte depth, tickOfByte tick, onOffOfByte autoClose with
  | some f, some p, some d, some t, some a =>
    some { v with fence := f, policy := p, depth := d, quietReload := reload.toNat, quietTick := t, autoClose := a }
  | _, _, _, _, _ => none

/-- The decision of CONFIGURE (R152, R3). -/
def decideConfigure (fence policy depth : Byte) (reload : BitVec 16) (tick autoClose : Byte) (w : WindowIdx) (s : State) :
    Reply × State :=
  if (s.window w).state ≠ .defined then refuse .badState s
  else
    match configureValues (s.window w) fence policy depth reload tick autoClose with
    | none => refuse .badParam s
    | some v =>
      ({ status := .done, data := [fence, policy, depth] ++ leBytes 2 reload.toNat ++ [tick, autoClose] },
        s.setWindow w v)

/-- The parameters of BIND_RING are in range (R153). -/
def bindInRange (base : BitVec 40) (b : RingBinding) : Bool :=
  decide (base.toNat % 65536 = 0) && decide (1 ≤ b.blocks) && decide (b.blocks ≤ 65536) &&
    decide (base.toNat + b.bytes ≤ 2 ^ 40) && decide (1 ≤ b.high) && decide (b.high ≤ b.capacity)

/-- The decision of BIND_RING (R153, R4, R112). -/
def decideBindRing (base : BitVec 40) (blocks : BitVec 24) (high : BitVec 32) (w : WindowIdx) (s : State) : Reply × State :=
  let b : RingBinding := { base := base, blocks := blocks.toNat, high := high.toNat }
  if (s.window w).state ≠ .defined then refuse .badState s
  else if bindInRange base b = false then refuse .badParam s
  else if overlapsWindow s (fun _ => false) base.toNat b.bytes || overlapsRing s w base.toNat b.bytes then
    refuse .overlap s
  else if placedWriteIn s base.toNat b.bytes then refuse .busy s
  else
    ({ status := .done,
       data := leBytes 5 base.toNat ++ leBytes 3 b.blocks ++ leBytes 4 b.high ++ leBytes 4 b.capacity },
      s.modWindow w (fun v => { v with binding := some b }))

/-- The decision of SET_CLASS (R154, R5). -/
def decideSetClass (requester cls : Byte) (w : WindowIdx) (s : State) : Reply × State :=
  if (s.window w).state = .unused then refuse .badState s
  else
    match requesterOfByte requester, classOfByte cls with
    | some r, some c =>
      ({ status := .done, data := [requester, c.code, ((s.window w).classOf r).code] },
        s.modWindow w (fun v => { v with classes := v.classes.set r c }))
    | _, _ => refuse .badParam s

/-- DELETE taken (R6, R28, R111). The ring state stays as it is after POR (R48). -/
def deleteEffect (w : WindowIdx) (s : State) : State :=
  raiseTrigger (unplaceParked w (filterRemove w (s.modWindow w (fun v => { Window.afterPor with ring := v.ring }))))

/-- The decision of DELETE (R155). -/
def decideDelete (w : WindowIdx) (s : State) : Reply × State :=
  if (s.window w).state ≠ .defined then refuse .badState s
  else ({ status := .done, data := [] }, deleteEffect w s)

/-! ### Arming, closing, releasing (R156 to R158) -/

/-- The window record at ARM (R7, R48). -/
def Window.armedFresh (v : Window) : Window :=
  { v with
    state := .armed, lastGen := v.lastGen + 1, gens := [GenEntry.fresh (v.lastGen + 1)], ring := RingState.empty,
    quietClosePending := false, timer := QuietTimer.stop false }

/-- The decision of ARM (R156). -/
def decideArm (w : WindowIdx) (s : State) : Reply × State :=
  let v := s.window w
  if v.state ≠ .defined ∨ v.binding = none then refuse .badState s
  else if v.exhausted then refuse .exhausted s
  else ({ status := .done, data := leBytes 4 (v.lastGen + 1) }, raiseTrigger (s.setWindow w v.armedFresh))

/-- The number of the oldest entry of a window's list; 0 when the list is empty. -/
def Window.oldestNumber (v : Window) : Nat := (v.gens.head?.map (·.number)).getD 0

/-- The decision of CLOSE (R157, R12). -/
def decideClose (w : WindowIdx) (s : State) : Reply × State :=
  let v := s.window w
  if v.state ≠ .armed then refuse .badState s
  else if v.hasClosing then refuse .busy s
  else if v.exhausted then refuse .exhausted s
  else
    let s1 := closeGeneration w .command s
    let closedState : GenState := if (v.openEntry.map (·.slotsPending)).getD 0 = 0 then .closed else .closing
    let released := decide ((s1.window w).oldestNumber ≠ v.oldestNumber)
    ({ status := .done,
       data := leBytes 4 v.openNumber ++ [closedState.code] ++ leBytes 4 (v.lastGen + 1) ++ [flagByte released] ++
         leBytes 4 (if released then v.oldestNumber else 0) }, s1)

/-- The decision of RELEASE (R158, R16). -/
def decideRelease (w : WindowIdx) (s : State) : Reply × State :=
  let v := s.window w
  if v.state ≠ .armed then refuse .badState s
  else
    match v.gens with
    | [] => refuse .empty s
    | [_] => refuse .empty s
    | m :: _ :: _ =>
      if m.state = .closing then refuse .busy s
      else ({ status := .done, data := leBytes 4 m.number ++ leBytes 4 m.recordCount }, releaseOldest w .command s)

/-! ### Rewinding and disarming (R159 to R162) -/

/-- A rewind context at acceptance (R66). -/
def RewindContext.accepted (g : Nat) : RewindContext :=
  { target := g, targetMoved := false, phase := .drain, pauseRequested := false, stop := none, restored := 0, skipped := 0,
    inHand := none }

/-- A rewind accepted (R67); a drain that has nothing to wait for ends at once (R67 step 4, R71, log 14). -/
def rewindEffect (w : WindowIdx) (g : Nat) (s : State) : State :=
  let s1 := raiseTrigger (s.modWindow w (fun v =>
    { v.quietStopped with state := .rewinding, rewind := some (RewindContext.accepted g) }))
  if drainMayEnd s1 w then endDrain w s1 else s1

/-- The decision of REWIND (R159). -/
def decideRewind (target : BitVec 32) (w : WindowIdx) (s : State) : Reply × State :=
  let v := s.window w
  if v.state ≠ .armed then refuse .badState s
  else if v.exhausted then refuse .exhausted s
  else if v.gens.any (fun e => e.number == target.toNat) = false then refuse .noTarget s
  else
    ({ status := .accepted, data := leBytes 4 target.toNat ++ leBytes 4 v.openNumber }, rewindEffect w target.toNat s)

/-- The data of a PAUSE response (R160, R186). -/
def pauseData (v : Window) : List Byte :=
  opt1 (v.rewind.map (·.phase.code)) ++ opt4 (v.rewind.map (·.restored)) ++ opt4 (v.rewind.map (·.skipped)) ++
    [flagByte (v.rewind.any (·.stop.isSome))] ++ opt4 ((v.rewind.bind (·.stop)).map (·.remaining))

/-- The decision of PAUSE (R160, R82). -/
def decidePause (w : WindowIdx) (s : State) : Reply × State :=
  let v := s.window w
  if v.state ≠ .rewinding then refuse .badState s
  else if v.rewind.any (·.pauseRequested) then ({ status := .done, data := pauseData v }, s)
  else
    ({ status := .accepted, data := pauseData v }, modContext w (fun c => { c with pauseRequested := true }) s)

/-- The data of a RESUME response (R161, R186). -/
def resumeData (v : Window) : List Byte :=
  let hand := v.rewind.bind (·.inHand)
  opt4 ((v.rewind.bind (·.stop)).map (·.remaining)) ++ [flagByte hand.isSome] ++ opt4 (hand.map (·.position)) ++
    opt4 (hand.map (·.sequence.toNat))

/-- The decision of RESUME (R161, R84). -/
def decideResume (w : WindowIdx) (s : State) : Reply × State :=
  let v := s.window w
  if v.state ≠ .paused then refuse .badState s
  else ({ status := .accepted, data := resumeData v }, resumeRewind w s)

/-- The decision of DISARM (R162, R17). -/
def decideDisarm (w : WindowIdx) (s : State) : Reply × State :=
  let v := s.window w
  match v.state with
  | .unused => refuse .badState s
  | .defined => refuse .badState s
  | .rewinding => refuse .busy s
  | .disarming => refuse .busy s
  | .armed | .paused | .faulted =>
    let s1 := s.setWindow w v.quietStopped
    let n := (s.slotsOf w).length
    if n = 0 then
      ({ status := .done,
         data := [flagByte v.rewind.isSome] ++ opt4 (v.rewind.map (·.restored)) ++ [0] }, disarmCompletion w s1)
    else
      ({ status := .accepted, data := [0, 0, 0, 0, 0, BitVec.ofNat 8 n] },
        raiseTrigger (s1.modWindow w (fun u => { u with state := .disarming })))

/-! ### Status, events, port settings, queries (R163 to R166) -/

/-- The decision of STATUS (R163). -/
def decideStatus (s : State) : Reply × State := ({ status := .done, data := statusData s }, s)

/-- The decision of READ_EVENT (R164, R175). -/
def decideReadEvent (s : State) : Reply × State :=
  match s.events with
  | [] => ({ status := .empty, data := padTo 46 [] ++ [flagByte s.lost, 0] }, { s with lost := false })
  | e :: rest =>
    ({ status := .done, data := eventBytes e ++ [flagByte s.lost, BitVec.ofNat 8 rest.length] },
      { s with events := rest, lost := false })

/-- The decision of SET_PORT (R165, R137, R176). -/
def decideSetPort (timeout : BitVec 16) (attention : Byte) (s : State) : Reply × State :=
  if timeout = 0 then refuse .badParam s
  else
    match onOffOfByte attention with
    | none => refuse .badParam s
    | some a =>
      ({ status := .done, data := leBytes 2 timeout.toNat ++ [flagByte a] }, { s with timeout := timeout, attnEnable := a })

/-- The decision of QUERY (R166). -/
def decideQuery (page : Byte) (w : WindowIdx) (s : State) : Reply × State :=
  if 3 < page.toNat then refuse .badParam s
  else ({ status := .done, data := BitVec.ofNat 8 w.val :: page :: queryPage s w page.toNat }, s)

/-- The decision of an unknown code (R150). -/
def decideUnknown (s : State) : Reply × State := refuse .unknownCommand s

/-! ### Frame errors (R145) -/

/-- The reason of a frame error, tested in the order of R145. -/
def frameReason (bits : List Bool) : FrameReason :=
  if bits.length < 128 then .short else if 128 < bits.length then .long else .crc

/-- The number of whole bytes received after the lead byte, held at 255 (R145). -/
def wholeBytes (bits : List Bool) : Nat := min 255 (bits.length / 8)

/-- A frame error replaces the held response and changes nothing else (R145). A transfer whose frame is good is no frame error
(log 3). -/
def frameErrorEffect (bits : List Bool) (s : State) : State :=
  if frameIsGood bits then s
  else
    let data := [(frameReason bits).code, BitVec.ofNat 8 (wholeBytes bits)]
    { s with held := responseFrame .frameError 0x00 s.cmdNumber data }

end Sys2Proof.Machine
end

