-- ==== Sys2Proof/Machine/ManagementFamily.lean ====
section
/-! DEFINITION. The meanings of the management commands: the sixteen commands, UNKNOWN_COMMAND, FRAME_ERROR. Each decision stands in
Machine/Management.lean. -/

namespace Sys2Proof.Machine

open Sys2Proof

/-- The outcome of a command: always a next state. -/
abbrev Result := Host.Outcome State Fault Refusal

/-- STATUS (R163). -/
def execStatus (s : State) : Result := .next (takeCommand 0x01 decideStatus s)

/-- DEFINE (R151, R2). -/
def execDefine (window : Byte) (base size : BitVec 40) (s : State) : Result :=
  .next (takeCommand 0x02 (onWindow window (decideDefine base size)) s)

/-- CONFIGURE (R152, R3). -/
def execConfigure (window fence policy depth : Byte) (reload : BitVec 16) (tick autoClose : Byte) (s : State) : Result :=
  .next (takeCommand 0x03 (onWindow window (decideConfigure fence policy depth reload tick autoClose)) s)

/-- BIND_RING (R153, R4). -/
def execBindRing (window : Byte) (base : BitVec 40) (blocks : BitVec 24) (high : BitVec 32) (s : State) : Result :=
  .next (takeCommand 0x04 (onWindow window (decideBindRing base blocks high)) s)

/-- SET_CLASS (R154, R5). -/
def execSetClass (window requester cls : Byte) (s : State) : Result :=
  .next (takeCommand 0x05 (onWindow window (decideSetClass requester cls)) s)

/-- DELETE (R155, R6). -/
def execDelete (window : Byte) (s : State) : Result := .next (takeCommand 0x0D (onWindow window decideDelete) s)

/-- ARM (R156, R7). -/
def execArm (window : Byte) (s : State) : Result := .next (takeCommand 0x06 (onWindow window decideArm) s)

/-- CLOSE (R157, R11, R12). -/
def execClose (window : Byte) (s : State) : Result := .next (takeCommand 0x07 (onWindow window decideClose) s)

/-- RELEASE (R158, R15, R16). -/
def execRelease (window : Byte) (s : State) : Result := .next (takeCommand 0x08 (onWindow window decideRelease) s)

/-- REWIND (R159, R67). -/
def execRewind (window : Byte) (target : BitVec 32) (s : State) : Result :=
  .next (takeCommand 0x09 (onWindow window (decideRewind target)) s)

/-- PAUSE (R160, R82). -/
def execPause (window : Byte) (s : State) : Result := .next (takeCommand 0x0A (onWindow window decidePause) s)

/-- RESUME (R161, R84). -/
def execResume (window : Byte) (s : State) : Result := .next (takeCommand 0x0B (onWindow window decideResume) s)

/-- DISARM (R162, R17). -/
def execDisarm (window : Byte) (s : State) : Result := .next (takeCommand 0x0C (onWindow window decideDisarm) s)

/-- QUERY (R166). -/
def execQuery (window page : Byte) (s : State) : Result :=
  .next (takeCommand 0x0E (onWindow window (decideQuery page)) s)

/-- READ_EVENT (R164, R175). -/
def execReadEvent (s : State) : Result := .next (takeCommand 0x0F decideReadEvent s)

/-- SET_PORT (R165). -/
def execSetPort (timeout : BitVec 16) (attention : Byte) (s : State) : Result :=
  .next (takeCommand 0x10 (decideSetPort timeout attention) s)

/-- UNKNOWN_COMMAND (R150): the echo carries the code received. A code of the sixteen is no unknown command (log 3). -/
def execUnknownCommand (code : Byte) (s : State) : Result :=
  .next (if isCommandCode code then s else takeCommand code decideUnknown s)

/-- FRAME_ERROR (R145). -/
def execFrameError (bits : List Bool) (s : State) : Result := .next (unlessPor (frameErrorEffect bits) s)

end Sys2Proof.Machine
end

