-- ==== Sys2Proof/Machine/SystemFamily.lean ====
section
/-! DEFINITION. The meanings of the system port's commands, of the re-examination, of the quiet timer's expiry and of the end of a
drain. A command whose condition does not hold changes nothing (log 3). -/

namespace Sys2Proof.Machine

open Sys2Proof

/-- SYSTEM_REQUEST (R105): the request is taken and decided as an arrival, or left on the channel. What the passes owed to
earlier triggers release is decided before it (R120, log 4). -/
def execSystemRequest (request : SysRequest) (s : State) : Result :=
  .next (if canTake s then arrive request (settle s) else s)

/-- SYSTEM_RESPONSE_DELIVERY (R104, R190): the oldest response leaves the response queue. -/
def execSystemResponseDelivery (s : State) : Result :=
  .next (unlessPor (fun s => { s with responses := s.responses.tail }) s)

/-- RE_EXAMINATION (R120): the pass that a trigger is owed (R119), or the rest of the pass in progress. -/
def execReExamination (s : State) : Result :=
  .next (unlessPor (fun s => if passOwed s then finishPass s else s) s)

/-- QUIET_TIMER_EXPIRY (R91, R96, R97, R99): taken by a RUNNING timer of an ARMED window (R95) whose remaining count is 0. A
timer that a LEAD placement reloaded first does not expire (R100, log 6). -/
def execQuietTimerExpiry (window : WindowIdx) (s : State) : Result :=
  .next (unlessPor (fun s =>
    if (s.window window).state = .armed ∧ (s.window window).timer.due = true then quietExpiry window s else s) s)

/-- DRAIN_END (R71). -/
def execDrainEnd (window : WindowIdx) (s : State) : Result :=
  .next (unlessPor (fun s => if drainMayEnd s window then endDrain window s else s) s)

end Sys2Proof.Machine
end

