-- ==== Sys2Proof/Machine/MemoryFamily.lean ====
section
/-! DEFINITION. The meanings of the memory port's commands and of the resets. -/

namespace Sys2Proof.Machine

open Sys2Proof

/-- ARBITER_GRANT (R133, R134). -/
def execArbiterGrant (s : State) : Result := .next (unlessPor grant s)

/-- MEMORY_REQUEST_ISSUE (R134, R137). -/
def execMemoryRequestIssue (s : State) : Result := .next (unlessPor issue s)

/-- MEMORY_RESPONSE (R127, R135, R136, R139). -/
def execMemoryResponse (ticket : Ticket) (status : MemStatus) (data : LineData) (s : State) : Result :=
  .next (unlessPor (takeResponse ticket status data) s)

/-- RESPONSE_TIMEOUT (R138). -/
def execResponseTimeout (ticket : Ticket) (s : State) : Result := .next (unlessPor (takeTimeout ticket) s)

/-- SYSTEM_PORT_RESET (R123, R43, R140). While POR_N is asserted only the level of the pin changes. -/
def execSystemPortReset (s : State) : Result := .next (if s.por then { s with srst := true } else assertSrst s)

/-- SYSTEM_PORT_RESET_RELEASE (R105): SRST_N is deasserted. -/
def execSystemPortResetRelease (s : State) : Result := .next { s with srst := false }

/-- POWER_ON_RESET (R124). -/
def execPowerOnReset (s : State) : Result := .next (assertPor s)

/-- POWER_ON_RESET_RELEASE (R142, R190): with CS_N low the management port waits for CS_N to rise. -/
def execPowerOnResetRelease (csLow : Bool) (s : State) : Result :=
  .next (if s.por then { s with por := false, waitCsRise := csLow } else s)

end Sys2Proof.Machine
end

