-- ==== Sys2Proof/Machine/Dispatch.lean ====
section
/-! DEFINITION. The dispatch of a command to its meaning: one arm per row of the opcode table. -/

namespace Sys2Proof.Machine

open Sys2Proof

/-- What a command does to everything but the queue of commands. -/
def exec (i : Instr) (s : State) : Host.Outcome State Fault Refusal :=
  match i with
  | .status => Sys2Proof.Machine.execStatus s
  | .define window base size => Sys2Proof.Machine.execDefine window base size s
  | .configure window fence policy depth reload tick autoClose => Sys2Proof.Machine.execConfigure window fence policy depth reload tick autoClose s
  | .bindRing window base blocks high => Sys2Proof.Machine.execBindRing window base blocks high s
  | .setClass window requester cls => Sys2Proof.Machine.execSetClass window requester cls s
  | .delete window => Sys2Proof.Machine.execDelete window s
  | .arm window => Sys2Proof.Machine.execArm window s
  | .close window => Sys2Proof.Machine.execClose window s
  | .release window => Sys2Proof.Machine.execRelease window s
  | .rewind window target => Sys2Proof.Machine.execRewind window target s
  | .pause window => Sys2Proof.Machine.execPause window s
  | .resume window => Sys2Proof.Machine.execResume window s
  | .disarm window => Sys2Proof.Machine.execDisarm window s
  | .query window page => Sys2Proof.Machine.execQuery window page s
  | .readEvent => Sys2Proof.Machine.execReadEvent s
  | .setPort timeout attention => Sys2Proof.Machine.execSetPort timeout attention s
  | .frameError bits => Sys2Proof.Machine.execFrameError bits s
  | .systemRequest request => Sys2Proof.Machine.execSystemRequest request s
  | .systemResponseDelivery => Sys2Proof.Machine.execSystemResponseDelivery s
  | .arbiterGrant => Sys2Proof.Machine.execArbiterGrant s
  | .memoryRequestIssue => Sys2Proof.Machine.execMemoryRequestIssue s
  | .memoryResponse ticket status data => Sys2Proof.Machine.execMemoryResponse ticket status data s
  | .responseTimeout ticket => Sys2Proof.Machine.execResponseTimeout ticket s
  | .quietTimerExpiry window => Sys2Proof.Machine.execQuietTimerExpiry window s
  | .reExamination => Sys2Proof.Machine.execReExamination s
  | .drainEnd window => Sys2Proof.Machine.execDrainEnd window s
  | .systemPortReset => Sys2Proof.Machine.execSystemPortReset s
  | .powerOnReset => Sys2Proof.Machine.execPowerOnReset s
  | .unknownCommand code => Sys2Proof.Machine.execUnknownCommand code s
  | .systemPortResetRelease => Sys2Proof.Machine.execSystemPortResetRelease s
  | .powerOnResetRelease csLow => Sys2Proof.Machine.execPowerOnResetRelease csLow s

end Sys2Proof.Machine
end

