-- ==== Sys2Proof/Machine/Time.lean ====
section
/-! DEFINITION. What step does on an empty queue (log 5): a pass that is owed goes on by one decision (R120), else one microsecond
of the part's internal time passes (R91, R137, R190). -/

namespace Sys2Proof.Machine

open Sys2Proof

/-- One microsecond for a RUNNING timer: remaining falls by one at the end of each full quiet tick (R91). -/
def QuietTimer.microsecond (tick : Nat) (t : QuietTimer) : QuietTimer :=
  if t.running = true ∧ 0 < t.remaining then
    (if t.elapsed + 1 < tick then { t with elapsed := t.elapsed + 1 }
     else { t with elapsed := 0, remaining := t.remaining - 1 })
  else t

/-- One microsecond for an outstanding entry: the time left of a WAITING entry falls (R137). -/
def OutEntry.microsecond (e : OutEntry) : OutEntry :=
  if e.state = .waiting then { e with timeLeft := e.timeLeft - 1 } else e

/-- The timeouts that are due: WAITING entries with no time left, by ticket (R138). -/
def dueTimeouts (s : State) : List Instr :=
  ((List.finRange 48).filter (fun t => (s.entry t).any (·.due))).map
    Instr.responseTimeout

/-- The expiries that are due: RUNNING timers at 0, by window (R91). -/
def dueExpiries (s : State) : List Instr :=
  ((List.finRange 16).filter (fun w => (s.window w).timer.due)).map
    Instr.quietTimerExpiry

/-- Every timer and every time left one microsecond on. -/
def elapse (s : State) : State :=
  { s with
    windows := s.windows.map (fun v => { v with timer := v.timer.microsecond v.quietTick.micros })
    table := s.table.map (fun o => o.map OutEntry.microsecond) }

/-- One microsecond: time passes, and the timeouts and expiries that fall due join the queue (log 5). -/
def tick (s : State) : State :=
  let s1 := elapse s
  { s1 with pending := s1.pending ++ dueTimeouts s1 ++ dueExpiries s1 }

/-- What the part does by itself while no command waits: the next decision of a pass that is owed, else one microsecond
(log 5). -/
def idle (s : State) : State := unlessPor (fun s => if passOwed s then passStep s else tick s) s

end Sys2Proof.Machine
end

