-- ==== Sys2Proof/Machine/Spi.lean ====
section
/-! DEFINITION. The wires of the management port (R142, R143, R144, R147): the fall and rise of CS_N and the bits between them. They
are no rows of the opcode table: a transfer's whole effect is the command that its end puts on the queue, and the held
response that a response read shifts out (log 12). -/

namespace Sys2Proof.Machine

open Sys2Proof

/-- The port looks at SCK and CS_N: not while POR_N is asserted, nor until CS_N has risen after a release with CS_N low
(R142). -/
def spiListens (s : State) : Bool := !s.por && !s.waitCsRise

/-- CS_N falls: a transfer begins with its lead byte (R143). -/
def csFall (s : State) : State := if spiListens s then { s with transfer := .lead [], frameBuffer := [] } else s

/-- What a complete lead byte makes of the transfer (R143). -/
def transferOfLead (b : Byte) : Transfer :=
  if b = 0x3C then .command else if b = 0xC3 then .response 0 else .ignored

/-- A rising edge of SCK with a bit on MOSI (R143, R144, R147). -/
def sckRise (mosi : Bool) (s : State) : State :=
  if spiListens s then
    match s.transfer with
    | .idle => s
    | .lead bits =>
      if (bits ++ [mosi]).length < 8 then { s with transfer := .lead (bits ++ [mosi]) }
      else { s with transfer := transferOfLead (bitsByte (bits ++ [mosi])) }
    | .command => { s with frameBuffer := s.frameBuffer ++ [mosi] }
    | .response n => { s with transfer := .response (n + 1) }
    | .ignored => s
  else s

/-- CS_N rises: the transfer ends and the frame buffer is emptied; a COMMAND transfer puts its command, or its frame error, on
the queue (R143, R144, R145). -/
def csRise (s : State) : State :=
  if s.por then s
  else
    match s.transfer with
    | .command =>
      { s with
        transfer := .idle, waitCsRise := false, frameBuffer := []
        pending := s.pending ++ [commandOfTransfer s.frameBuffer] }
    | .idle | .lead _ | .response _ | .ignored => { s with transfer := .idle, waitCsRise := false, frameBuffer := [] }

/-- Bits received of R142: the bits taken since the lead byte ended. -/
def State.bitsReceived (s : State) : Nat := s.frameBuffer.length

/-- A whole transfer of the given bits, lead byte first. -/
def spiTransfer (bits : List Bool) (s : State) : State := csRise (bits.foldl (fun s b => sckRise b s) (csFall s))

/-- The bit on MISO at the next rising edge of SCK; `none` is high impedance. 0xFF is shifted out but in a response read, which
shifts out the held response, byte 0 first, and 0xFF beyond its 64 bytes (R143, R144, R147). -/
def misoBit (s : State) : Option Bool :=
  match s.transfer with
  | .idle => none
  | .lead _ => some true
  | .command => some true
  | .ignored => some true
  | .response n => some ((s.held.flatMap byteBits).getD n true)

/-- The bits that a response read of `n` bits shifts out (R147). -/
def responseBits (s : State) (n : Nat) : List Bool := (List.range n).map (fun i => (s.held.flatMap byteBits).getD i true)

end Sys2Proof.Machine
end

