-- ==== Sys2Proof/Machine/Signals.lean ====
section
/-! DEFINITION. The outputs of the part as functions of its state (10.7, R127, R134, R177, R190). While POR_N is asserted every accept
and valid is low and ATTN_N is released. -/

namespace Sys2Proof.Machine

open Sys2Proof

/-- ATTN_N is driven low (R177, R178). -/
def attnDrivenLow (s : State) : Bool := attentionAsserted s

/-- Accept of the system request channel for the request presented on it (R105, R190). With no waiting arrival it is high when
SYSTEM_REQUEST would take the request, which is not the case when the request must park and the list is full (R118). A waiting
arrival, which stays on the channel, sees it high at the decision that takes it, the last of a pass (R118, R120). -/
def systemRequestAccept (r : SysRequest) (s : State) : Bool :=
  match s.waiting with
  | none => canTake s && (arrive r (settle s)).waiting.isNone
  | some u => !s.por && decide (u = r) && s.pass == some s.park.length && (passStep s).waiting.isNone

/-- Payload of the system response channel; valid is low when there is none (R104, R190). -/
def systemResponseOut (s : State) : Option SysResponse := if s.por then none else s.responses.head?

/-- Payload of the memory request channel with its ticket; valid is low when there is none (R134, R190). -/
def memoryRequestOut (s : State) : Option (Ticket × MemOp × Line) :=
  if s.por then none
  else
    (presentedTicket s).bind (fun t => (s.entry t).map (fun e => (t, e.request.op, e.request.line)))

/-- Accept of the memory response channel: high at all times outside POR (R127, R190). -/
def memoryResponseAccept (s : State) : Bool := !s.por

end Sys2Proof.Machine
end

