-- ==== Sys2Proof/Safety.lean ====
section
/-! DEFINITION. The invariants that claims are stated with: laws of the spec about the whole part, as predicates of the state. -/

namespace Sys2Proof.Machine

open Sys2Proof

/-- The event queue never holds more than 64 events (R173). -/
def EventsBounded (s : State) : Prop := s.events.length ≤ 64

/-- The held response is a frame of 64 bytes whose last byte is the CRC-8 of the 63 before (R142, R146, R148). -/
def HeldIsFrame (s : State) : Prop := s.held.length = 64 ∧ s.held.getD 63 0 = crc8 (s.held.take 63)

/-- The admission law's counts (R105, R118, R121): admitted requests are told apart by requester and tag; they and the responses
that wait are at most 64 together, and below 64 while an arrival waits; the park list holds at most 32 entries, and a pass in
progress has left no more entries in place than the list holds (R120). -/
structure AdmissionBounded (s : State) : Prop where
  distinct : s.admitted.Nodup
  together : s.admitted.length + s.responses.length ≤ 64
  waitingBelow : s.waiting.isSome = true → s.admitted.length + s.responses.length < 64
  parked : s.park.length ≤ 32
  cursor : ∀ n, s.pass = some n → n ≤ s.park.length

/-- At most one outstanding-table entry is PRESENTED (R133, R134). -/
def OnePresented (s : State) : Prop :=
  ∀ t u : Ticket, ((s.entry t).any (fun e => e.state == .presented)) = true →
    ((s.entry u).any (fun e => e.state == .presented)) = true → t = u

/-- A set of the capture filter: its entries belong to it, no way holds two entries, no window and line has two (R23, R27). -/
structure FilterSetOk (index : Nat) (set : FilterSet) : Prop where
  place : ∀ e ∈ set, filterIndex e.line = index
  ways : (set.map (·.way)).Nodup
  lines : (set.map (fun e => (e.window, e.line))).Nodup

/-- The capture filter is in its canonical form and every set is as R23 and R27 say. -/
structure FilterOk (s : State) : Prop where
  canonical : filterCanonical s.filter = true
  sets : ∀ p ∈ s.filter, FilterSetOk p.1 p.2

/-- The ring manager's state of a window that has no arming is its value after POR; occupancy never exceeds capacity
(R47, R53). -/
structure RingBounded (v : Window) : Prop where
  idle : v.state = .unused ∨ v.state = .defined → v.ring = RingState.empty
  occupancy : v.ring.occupancy ≤ v.capacity

/-- The window keeps a history: it has been armed and not yet disarmed (R1). -/
def Window.hasHistory (v : Window) : Prop := v.state ≠ .unused ∧ v.state ≠ .defined

/-- The law of a window's generation list (R9, R10, R53): numbers rise strictly and none exceeds the last generation number;
without an arming the list is empty; with one, the newest entry and no other is OPEN, at most one is CLOSING, and occupancy is
the sum of the record counts; while the window is ARMED, REWINDING or PAUSED the list holds at most depth entries, or depth + 1
while its oldest is CLOSING. -/
structure GenerationListLaw (v : Window) : Prop where
  depthPositive : 1 ≤ v.depth
  rising : (v.gens.map (·.number)).Pairwise (· < ·)
  bounded : ∀ e ∈ v.gens, e.number ≤ v.lastGen
  idle : v.state = .unused ∨ v.state = .defined → v.gens = []
  newestOpen : v.hasHistory → ∃ older e, v.gens = older ++ [e] ∧ e.state = .opened ∧ ∀ o ∈ older, o.state ≠ .opened
  oneClosing : (v.gens.filter (fun e => e.state == .closing)).length ≤ 1
  counted : v.hasHistory → v.ring.occupancy = recordSum v.gens
  withinDepth : v.state = .armed ∨ v.state = .rewinding ∨ v.state = .paused →
    v.gens.length ≤ v.depth ∨ (v.gens.length = v.depth + 1 ∧ v.gens.head?.any (fun e => e.state == .closing) = true)

/-- The drain of the window's rewind has ended and its walk has not (R71, R79): the window is PAUSED, or REWINDING with the stop
fields set. -/
def Window.afterDrain (v : Window) : Prop :=
  v.state = .paused ∨ (v.state = .rewinding ∧ v.rewind.any (·.stop.isSome) = true)

/-- The histories of all windows (R9, R53), with what a rewind relies on (R71, R75, R82): once its drain has ended, no capture
slot names the window and its generation list holds the target. -/
structure HistoryOk (s : State) : Prop where
  lists : ∀ w : WindowIdx, GenerationListLaw (s.window w)
  context : ∀ w : WindowIdx, (s.window w).state = .rewinding ∨ (s.window w).state = .paused →
    (s.window w).rewind.isSome = true
  quietSlots : ∀ w : WindowIdx, (s.window w).afterDrain → s.slotsOf w = []
  targetHeld : ∀ w : WindowIdx, ∀ c, (s.window w).afterDrain → (s.window w).rewind = some c →
    ∃ e ∈ (s.window w).gens, e.number = c.target

/-- Slots and generations count alike (R31, R41): a window without an arming has no slot, no slot's generation is above the
window's last generation number, and the slots pending of each entry is the number of busy slots placed in it. -/
structure SlotsCounted (s : State) : Prop where
  idle : ∀ w : WindowIdx, ¬(s.window w).hasHistory → s.slotsOf w = []
  bounded : ∀ w : WindowIdx, ∀ k ∈ s.slotsOf w, k.generation ≤ (s.window w).lastGen
  pending : ∀ w : WindowIdx, ∀ e ∈ (s.window w).gens,
    e.slotsPending = ((s.slotsOf w).filter (fun k => k.generation == e.number)).length

/-- The memory-port request is that of an admitted request (R130). -/
def MemRequest.isForwarded (r : MemRequest) : Bool :=
  match r.owner with
  | .request _ _ => true
  | .trigger _ => false
  | .capture _ _ => false
  | .rewind _ _ => false

/-- The lines of the placed requests (R113): forwarded requests that wait in the forward queue, triggers of busy slots,
forwarded requests in the outstanding table. -/
def placedLines (s : State) : List Line :=
  (s.forwardQ.filter (·.isForwarded)).map (·.line) ++ s.busySlots.map (·.line) ++
    (s.occupied.filter (·.request.isForwarded)).map (·.request.line)

/-- The law of one request per line (R113): no two placed requests name one line; the capture queue and the offer of the rewind
engine hold no forwarded request (R131, R132). -/
structure OneRequestPerLine (s : State) : Prop where
  lines : (placedLines s).Nodup
  captureOwn : ∀ r ∈ s.captureQ, r.isForwarded = false
  rewindOwn : ∀ r, s.rewindOffer = some r → r.isForwarded = false

/-- The timer of a window runs only while the window is ARMED (R95). -/
def TimerWithArming (v : Window) : Prop := v.timer.running = true → v.state = .armed

/-- Every window meets a predicate. -/
def EveryWindow (P : Window → Prop) (s : State) : Prop := ∀ w : WindowIdx, P (s.window w)

/-! ### Words that claims are stated with -/

/-- The frame byte that names a window (R185). -/
def windowByte (w : WindowIdx) : Byte := BitVec.ofNat 8 w.val

/-- The window byte of a command that names a window (R150). -/
def windowOperand : Instr → Option Byte
  | .define w _ _ => some w
  | .configure w _ _ _ _ _ _ => some w
  | .bindRing w _ _ _ => some w
  | .setClass w _ _ => some w
  | .delete w | .arm w | .close w | .release w | .pause w | .resume w | .disarm w => some w
  | .rewind w _ => some w
  | .query w _ => some w
  | _ => none

/-- The table of R150 for the window-state test: the status of the refusal, or none where the state is accepted. -/
def stateTest : Instr → WindowState → Option Status
  | .define _ _ _, .unused | .define _ _ _, .defined => none
  | .configure _ _ _ _ _ _ _, .defined | .bindRing _ _ _ _, .defined | .delete _, .defined | .arm _, .defined => none
  | .setClass _ _ _, .unused => some .badState
  | .setClass _ _ _, _ => none
  | .close _, .armed | .release _, .armed | .rewind _ _, .armed => none
  | .pause _, .rewinding => none
  | .resume _, .paused => none
  | .disarm _, .armed | .disarm _, .paused | .disarm _, .faulted => none
  | .disarm _, .rewinding | .disarm _, .disarming => some .busy
  | .query _ _, _ => none
  | _, _ => some .badState

/-- The system port takes the request that is presented (R105) with no pass owed (R120), and it is neither a tag reuse (R106) nor
an empty write (R107). -/
structure TakenFresh (r : SysRequest) (s : State) : Prop where
  notPor : s.por = false
  notSrst : s.srst = false
  noneWaiting : s.waiting = none
  room : s.admitted.length + s.responses.length < 64
  freshTag : (r.requester, r.tag) ∉ s.admitted
  enabled : emptyWrite r = false
  settled : passOwed s = false

/-- No line of a ring area of a window that is not UNUSED (R108). -/
def inNoRing (s : State) (l : Line) : Prop := ∀ u : WindowIdx, (s.window u).state ≠ .unused → (s.window u).ringCovers l = false

/-- A line lies in the range of exactly one window that is not UNUSED, and in no ring area (R108, R109). -/
structure LiesIn (s : State) (w : WindowIdx) (l : Line) : Prop where
  live : (s.window w).state ≠ .unused
  inside : (s.window w).covers l = true
  alone : ∀ u : WindowIdx, u ≠ w → (s.window u).state ≠ .unused → (s.window u).covers l = false
  noRing : inNoRing s l

/-- A line is not busy for an arrival (R113). -/
def lineFree (s : State) (l : Line) : Prop := lineHeld s l = false ∧ ∀ e ∈ s.park, e.request.line ≠ l

/-- The lowest-numbered free slot (R30). -/
def LowestFree (s : State) (k : SlotIdx) : Prop := s.slot k = none ∧ ∀ j : SlotIdx, j < k → s.slot j ≠ none

/-- States that a run from a state can reach. -/
inductive Reaches (s : State) : State → Prop where
  | here : Reaches s s
  | next {t u : State} : Reaches s t → step t = .next u → Reaches s u

end Sys2Proof.Machine
end

