-- ==== Sys2Proof/WellFormed.lean ====
section
/-! DEFINITION. Which terms are commands that the outside can send: the operands' types say the rest. -/

namespace Sys2Proof

/-- A FRAME_ERROR is a transfer in which no command is taken (R145), and an UNKNOWN_COMMAND names none of the sixteen
codes (R150). Every other term is a command. -/
def Instr.wellFormed : Instr → Bool
  | .frameError bits => !frameIsGood bits
  | .unknownCommand code => !isCommandCode code
  | .status | .define _ _ _ | .configure _ _ _ _ _ _ _ | .bindRing _ _ _ _ | .setClass _ _ _ | .delete _ | .arm _
  | .close _ | .release _ | .rewind _ _ | .pause _ | .resume _ | .disarm _ | .query _ _ | .readEvent | .setPort _ _
  | .systemRequest _ | .systemResponseDelivery | .arbiterGrant | .memoryRequestIssue | .memoryResponse _ _ _
  | .responseTimeout _ | .quietTimerExpiry _ | .reExamination | .drainEnd _ | .systemPortReset | .powerOnReset
  | .systemPortResetRelease | .powerOnResetRelease _ => true

end Sys2Proof
end

