-- ==== Sys2Proof/Certificates/Slice0/Obligations.lean ====
section
/-! DEFINITION. The statements for the provers: what each command does, in which states it does it, what it leaves alone, and the
laws that every step keeps. A result is written as the state before with the fields that change, so that each equation is the
command's frame as well. -/

open Sys2Proof Sys2Proof.Machine

/-! ### Steps and resets -/

/-- A step takes the command at the front of the queue and answers what that command does on the rest; no command ends in a
fault or a refusal. -/
def Obligations.StepRunsTheFrontCommand : Prop :=
  (∀ (c : Instr) (rest : List Instr) (s : State), s.pending = c :: rest → step s = exec c { s with pending := rest }) ∧
  (∀ (c : Instr) (s : State), ∃ t, exec c s = .next t)

/-- With no command waiting and no pass owed, a step is one microsecond (the model's choice, log 5): a RUNNING timer's quiet
tick goes on or its remaining count falls by one (R91), the time left of a WAITING entry falls by one (R137), and exactly the
timeouts and expiries that are then due join the queue. Nothing else changes. -/
def Obligations.AnIdleStepIsOneMicrosecond : Prop :=
  ∀ s : State, s.pending = [] → s.por = false → passOwed s = false → ∃ t, step s = .next t ∧
    t = { s with windows := t.windows, table := t.table, pending := t.pending } ∧
    (∀ w : WindowIdx, ∃ timer, t.window w = { s.window w with timer := timer } ∧
      ((s.window w).timer.running = false ∨ (s.window w).timer.remaining = 0 → timer = (s.window w).timer) ∧
      ((s.window w).timer.running = true → 0 < (s.window w).timer.remaining →
        (s.window w).timer.elapsed + 1 < (s.window w).quietTick.micros →
        timer = { (s.window w).timer with elapsed := (s.window w).timer.elapsed + 1 }) ∧
      ((s.window w).timer.running = true → 0 < (s.window w).timer.remaining →
        (s.window w).quietTick.micros ≤ (s.window w).timer.elapsed + 1 →
        timer = { (s.window w).timer with elapsed := 0, remaining := (s.window w).timer.remaining - 1 })) ∧
    (∀ k : Ticket, s.entry k = none → t.entry k = none) ∧
    (∀ (k : Ticket) (e : OutEntry), s.entry k = some e →
      t.entry k = some (if e.state = .waiting then { e with timeLeft := e.timeLeft - 1 } else e)) ∧
    (∀ c ∈ t.pending, (∃ k e, c = .responseTimeout k ∧ t.entry k = some e ∧ e.state = .waiting ∧ e.timeLeft = 0) ∨
      (∃ w, c = .quietTimerExpiry w ∧ (t.window w).timer.running = true ∧ (t.window w).timer.remaining = 0)) ∧
    (∀ k e, t.entry k = some e → e.state = .waiting → e.timeLeft = 0 → .responseTimeout k ∈ t.pending) ∧
    (∀ w, (t.window w).timer.running = true → (t.window w).timer.remaining = 0 → .quietTimerExpiry w ∈ t.pending)

/-- The values that the rules give for POR: the window record of R1, the ring state of R47, the timer of R90, empty
structures, no pass owed or in progress, the arbiter and turn pointers, the response timeout, the event queue, the management
port with the NONE response. One value is the model's choice and no rule's: the microseconds of the quiet tick in progress,
`elapsed := 0` (log 16). -/
def Obligations.ResetLeavesEveryBlockInItsInitialState : Prop :=
  (∀ w : WindowIdx, State.reset.window w =
    { state := .unused, base := 0, size := 0, fence := .hold, policy := .hold, depth := 2, quietReload := 0,
      quietTick := .us1000, autoClose := false, classes := Vector.replicate 64 .lead, binding := none, lastGen := 0,
      gens := [], quietClosePending := false, rewind := none, fault := none,
      ring := { tail := 0, head := 0, occupancy := 0, nextSeq := 0, full := false, high := false },
      timer := { running := false, remaining := 0, lapsed := false, elapsed := 0 } }) ∧
  State.reset.filter = [] ∧ (∀ k : SlotIdx, State.reset.slot k = none) ∧ State.reset.admitted = [] ∧
  State.reset.park = [] ∧ State.reset.waiting = none ∧ State.reset.reexamDue = false ∧ State.reset.pass = none ∧
  State.reset.responses = [] ∧ State.reset.forwardQ = [] ∧
  State.reset.captureQ = [] ∧ (∀ k : Ticket, State.reset.entry k = none) ∧ State.reset.lastSource = .rewind ∧
  State.reset.timeout = 1000 ∧ State.reset.rewindOffer = none ∧ State.reset.rewindLast = 15 ∧ State.reset.events = [] ∧
  State.reset.serial = 0 ∧ State.reset.lost = false ∧ State.reset.attnEnable = false ∧ State.reset.transfer = .idle ∧
  State.reset.frameBuffer = [] ∧ State.reset.cmdNumber = 0 ∧ State.reset.held = List.replicate 64 0

/-- POWER_ON_RESET returns every block to its state after POR; the level of SRST_N, the queue of commands and the count of
free values are not the part's own (log 7). The two releases change the pins alone; a release with CS_N low makes the
management port wait for its rise. A release of POR_N that finds it not asserted changes nothing, which is the model's choice
(log 3). While POR_N is asserted no command but those of the reset pins has an effect (R142, R179,
R190; log 7), and an assertion of SRST_N changes the level of that pin alone. -/
def Obligations.ResetPinsDoWhatTheRulesGive : Prop :=
  ((∀ s : State, exec .powerOnReset s =
     .next { State.reset with por := true, srst := s.srst, freeCount := s.freeCount, pending := s.pending }) ∧
   (∀ (csLow : Bool) (s : State), s.por = true →
     exec (.powerOnResetRelease csLow) s = .next { s with por := false, waitCsRise := csLow }) ∧
   (∀ (csLow : Bool) (s : State), s.por = false → exec (.powerOnResetRelease csLow) s = .next s) ∧
   (∀ s : State, exec .systemPortResetRelease s = .next { s with srst := false })) ∧
  ((∀ (c : Instr) (s : State), s.por = true → c ≠ .powerOnReset → c ≠ .systemPortReset → c ≠ .systemPortResetRelease →
     (∀ csLow, c ≠ .powerOnResetRelease csLow) → exec c s = .next s) ∧
   (∀ s : State, s.por = true → exec .systemPortReset s = .next { s with srst := true }))

/-- SYSTEM_PORT_RESET (R43, R104, R118, R123, R140): parked and queued requests, the waiting arrival and the waiting responses
are gone, nothing is admitted, FORWARD entries are orphaned, the triggers of READING and RECORDING slots are dropped, and a
slot whose trigger waited in the forward queue is freed. The capture queue, the filter, the rewind engine's offer and the
settings stay. A pass in progress ends and none is owed (R195): what it has placed or answered stands and shares the fate of
its kind above, what it has not reached is gone with the list. With no trigger in the forward queue the windows and the event
queue stay too. -/
def Obligations.SystemPortResetDiscardsTheRequests : Prop :=
  ∀ s : State, s.por = false → ∃ t, exec .systemPortReset s = .next t ∧
    t = { s with
      srst := true, park := [], waiting := none, responses := [], admitted := [], reexamDue := false, pass := none
      forwardQ := []
      slots := t.slots, table := t.table, windows := t.windows, events := t.events, serial := t.serial, lost := t.lost } ∧
    (∀ k : Ticket, t.entry k = (s.entry k).map (fun e =>
      if e.request.owner.source = .forward then { e with orphaned := true } else e)) ∧
    (∀ k : SlotIdx, (∃ r ∈ s.forwardQ, r.owner = .trigger k) → t.slot k = none) ∧
    (∀ k : SlotIdx, (∀ r ∈ s.forwardQ, r.owner ≠ .trigger k) →
      t.slot k = (s.slot k).map (fun sl =>
        if sl.phase = .reading ∨ sl.phase = .recording then { sl with dropped := true } else sl)) ∧
    ((∀ r ∈ s.forwardQ, ∀ k, r.owner ≠ .trigger k) →
      t.windows = s.windows ∧ t.events = s.events ∧ t.serial = s.serial ∧ t.lost = s.lost)

/-! ### The management commands -/

/-- STATUS (R163, R187): the data in the order of the layout; only the held response and the command number change. QUERY in
every state of the window (R166): the page asked for, and nothing changed. -/
def Obligations.StatusAndQueryReport : Prop :=
  (∀ s : State, s.por = false → exec .status s = .next (taken .done 0x01
     ([0x46, 0x4C, 0x32, 0x34, 0x01, BitVec.ofNat 8 s.admitted.length, BitVec.ofNat 8 s.park.length,
       flagByte s.waiting.isSome, BitVec.ofNat 8 s.busySlots.length, BitVec.ofNat 8 s.occupied.length] ++
       leBytes 2 s.timeout.toNat ++
       [BitVec.ofNat 8 s.events.length, flagByte s.lost, flagByte s.attnEnable]) s s)) ∧
  (∀ (w : WindowIdx) (page : Nat) (s : State), s.por = false → page ≤ 3 →
     exec (.query (windowByte w) (BitVec.ofNat 8 page)) s = .next (taken .done 0x0E
       ([windowByte w, BitVec.ofNat 8 page] ++
         (if page = 0 then page0 s w else if page = 1 then page1 (s.window w)
          else if page = 2 then page2 (s.window w) else page3 (s.window w))) s s))

/-- DEFINE of an UNUSED or DEFINED window (R2, R28, R111, R151), and DELETE of a DEFINED one (R6, R155): the record takes the
column of R1, the filter loses the window's entries and no other, park-list entries that name the window name none, and a
re-examination is triggered. The ring state stays as it stands (R48). -/
def Obligations.DefineAndDeleteReplaceTheRecord : Prop :=
  (∀ (w : WindowIdx) (base size : BitVec 40) (s : State), s.por = false → FilterOk s →
    (s.window w).state = .unused ∨ (s.window w).state = .defined →
    base.toNat % 4096 = 0 → size.toNat % 4096 = 0 → 4096 ≤ size.toNat → size.toNat ≤ 2 ^ 36 →
    base.toNat + size.toNat ≤ 2 ^ 40 →
    (∀ u, u ≠ w → (s.window u).state ≠ .unused →
      base.toNat + size.toNat ≤ (s.window u).base.toNat ∨ (s.window u).base.toNat + (s.window u).size ≤ base.toNat) →
    (∀ u b, u ≠ w → (s.window u).state ≠ .unused → (s.window u).binding = some b →
      base.toNat + size.toNat ≤ b.base.toNat ∨ b.base.toNat + b.bytes ≤ base.toNat) →
    ∃ filter, exec (.define (windowByte w) base size) s = .next (taken .done 0x02
        (leBytes 5 base.toNat ++ leBytes 5 size.toNat) s
        (raiseTrigger { s.setWindow w { Window.afterPor with
            state := .defined, base := base, size := size.toNat, ring := (s.window w).ring } with
          filter := filter
          park := s.park.map (fun e => if e.place.any (fun p => p.1 == w) then { e with place := none } else e) })) ∧
      ∀ i, filterGet filter i = (filterGet s.filter i).filter (fun e => e.window != w)) ∧
  (∀ (w : WindowIdx) (s : State), s.por = false → FilterOk s → (s.window w).state = .defined →
    ∃ filter, exec (.delete (windowByte w)) s = .next (taken .done 0x0D [] s
        (raiseTrigger { s.setWindow w { Window.afterPor with ring := (s.window w).ring } with
          filter := filter
          park := s.park.map (fun e => if e.place.any (fun p => p.1 == w) then { e with place := none } else e) })) ∧
      ∀ i, filterGet filter i = (filterGet s.filter i).filter (fun e => e.window != w))

/-- CONFIGURE of a DEFINED window (R3, R152): the six values are replaced and the rest of the record stays. BIND_RING of a
DEFINED window (R4, R112, R153): the binding is present with the values given, and nothing else of the window changes. -/
def Obligations.ConfigureAndBindRingSetTheirValues : Prop :=
  (∀ (w : WindowIdx) (f : FenceMode) (p : RingPolicy) (d : Nat) (reload : BitVec 16) (q : QuietTick) (a : Bool) (s : State),
     s.por = false → (s.window w).state = .defined → 1 ≤ d → d ≤ 4 →
     exec (.configure (windowByte w) f.code p.code (BitVec.ofNat 8 d) reload q.code (flagByte a)) s =
       .next (taken .done 0x03
         ([f.code, p.code, BitVec.ofNat 8 d] ++ leBytes 2 reload.toNat ++ [q.code, flagByte a]) s
         (s.setWindow w { s.window w with
           fence := f, policy := p, depth := d, quietReload := reload.toNat, quietTick := q, autoClose := a }))) ∧
  (∀ (w : WindowIdx) (base : BitVec 40) (blocks : BitVec 24) (high : BitVec 32) (s : State),
     s.por = false → (s.window w).state = .defined →
     base.toNat % 65536 = 0 → 1 ≤ blocks.toNat → blocks.toNat ≤ 65536 → base.toNat + blocks.toNat * 65536 ≤ 2 ^ 40 →
     1 ≤ high.toNat → high.toNat ≤ blocks.toNat * 512 →
     (∀ u, (s.window u).state ≠ .unused → base.toNat + blocks.toNat * 65536 ≤ (s.window u).base.toNat ∨
       (s.window u).base.toNat + (s.window u).size ≤ base.toNat) →
     (∀ u b, u ≠ w → (s.window u).state ≠ .unused → (s.window u).binding = some b →
       base.toNat + blocks.toNat * 65536 ≤ b.base.toNat ∨ b.base.toNat + b.bytes ≤ base.toNat) →
     placedWriteIn s base.toNat (blocks.toNat * 65536) = false →
     exec (.bindRing (windowByte w) base blocks high) s = .next (taken .done 0x04
       (leBytes 5 base.toNat ++ leBytes 3 blocks.toNat ++ leBytes 4 high.toNat ++ leBytes 4 (blocks.toNat * 512)) s
       (s.setWindow w { s.window w with
         binding := some { base := base, blocks := blocks.toNat, high := high.toNat } })))

/-- SET_CLASS (R154): taken in every state but UNUSED; a requester above 63 or a class that is no code gives BAD_PARAM; else
one entry of the class map is set; the class already held changes nothing but the held response and the command number. -/
def Obligations.SetClassSetsOneClass : Prop :=
  (∀ (w : WindowIdx) (r : Requester) (c : ReqClass) (s : State), s.por = false → (s.window w).state ≠ .unused →
    exec (.setClass (windowByte w) (BitVec.ofNat 8 r.val) c.code) s = .next (taken .done 0x05
      [BitVec.ofNat 8 r.val, c.code, ((s.window w).classes[r]).code] s
      (s.setWindow w { s.window w with classes := (s.window w).classes.set r c }))) ∧
  (∀ (w : WindowIdx) (r : Requester) (s : State), s.por = false → (s.window w).state ≠ .unused →
    exec (.setClass (windowByte w) (BitVec.ofNat 8 r.val) ((s.window w).classes[r]).code) s = .next (taken .done 0x05
      [BitVec.ofNat 8 r.val, ((s.window w).classes[r]).code, ((s.window w).classes[r]).code] s s)) ∧
  (∀ (w : WindowIdx) (requester cls : Byte) (s : State), s.por = false → (s.window w).state ≠ .unused →
    63 < requester.toNat ∨ (∀ c : ReqClass, cls ≠ c.code) →
    exec (.setClass (windowByte w) requester cls) s = .next (taken .badParam 0x05 [] s s)) ∧
  (∀ (w : WindowIdx) (requester cls : Byte) (s : State), s.por = false → (s.window w).state = .unused →
    exec (.setClass (windowByte w) requester cls) s = .next (taken .badState 0x05 [] s s))

/-- ARM of a DEFINED window with a binding and a generation number left (R7, R48, R156). -/
def Obligations.ArmOpensTheFirstGeneration : Prop :=
  ∀ (w : WindowIdx) (s : State), s.por = false → (s.window w).state = .defined → (s.window w).binding ≠ none →
    (s.window w).lastGen < 4294967295 →
    exec (.arm (windowByte w)) s = .next (taken .done 0x06 (leBytes 4 ((s.window w).lastGen + 1)) s
      (raiseTrigger (s.setWindow w { s.window w with
        state := .armed
        lastGen := (s.window w).lastGen + 1
        gens := [{ number := (s.window w).lastGen + 1, state := .opened, firstSeq := none, recordCount := 0,
                   slotsPending := 0, closeCause := none }]
        ring := { tail := 0, head := 0, occupancy := 0, nextSeq := 0, full := false, high := false }
        quietClosePending := false
        timer := { running := false, remaining := 0, lapsed := false, elapsed := 0 } })))

/-- CLOSE of an ARMED window whose list has room (R11, R12, R157): with slots pending the OPEN entry becomes CLOSING and no
event is produced; with none it becomes CLOSED, with GEN_CLOSED; the next generation is OPEN, the timer stops. Nothing is
released. CLOSE of an ARMED window whose list is as long as its depth (R11, R14, R15, R60): GEN_CLOSED for the generation
closed at once, then the oldest entry, which is CLOSED, is released with GEN_RELEASED and cause DEPTH. With retain depth 1 the
list holds the OPEN entry alone (R9, R14): with slots pending it becomes CLOSING and stays, one entry above the depth; with
none it becomes CLOSED and is itself released at once. -/
def Obligations.CloseOpensTheNextGeneration : Prop :=
  (∀ (w : WindowIdx) (older : List GenEntry) (e : GenEntry) (s : State), s.por = false → (s.window w).state = .armed →
     (s.window w).gens = older ++ [e] → e.state = .opened → (∀ o ∈ older, o.state = .closed) →
     (s.window w).lastGen < 4294967295 → older.length + 2 ≤ (s.window w).depth →
     exec (.close (windowByte w)) s = .next (taken .done 0x07
       (leBytes 4 e.number ++ [(if 0 < e.slotsPending then GenState.closing else GenState.closed).code] ++
         leBytes 4 ((s.window w).lastGen + 1) ++ [0, 0, 0, 0, 0]) s
       ((if 0 < e.slotsPending then id
         else emit { kind := .genClosed, window := some w, generation := some e.number,
                     cause := some (.close .command) })
         (s.setWindow w { s.window w with
           gens := older ++ [{ e with
               state := if 0 < e.slotsPending then .closing else .closed, closeCause := some .command },
             { number := (s.window w).lastGen + 1, state := .opened, firstSeq := none, recordCount := 0,
               slotsPending := 0, closeCause := none }]
           lastGen := (s.window w).lastGen + 1
           quietClosePending := false
           timer := { running := false, remaining := 0, lapsed := false, elapsed := 0 } })))) ∧
  (∀ (w : WindowIdx) (m : GenEntry) (middle : List GenEntry) (e : GenEntry) (s : State), s.por = false →
     (s.window w).state = .armed → (s.window w).gens = m :: middle ++ [e] → e.state = .opened →
     (∀ o ∈ m :: middle, o.state = .closed ∧ o.number ≠ e.number) → (∀ o ∈ middle, o.number ≠ m.number) →
     m.number ≤ (s.window w).lastGen →
     (s.window w).lastGen < 4294967295 → middle.length + 2 = (s.window w).depth →
     ∃ released, exec (.close (windowByte w)) s = .next (taken .done 0x07
         (leBytes 4 e.number ++ [(if 0 < e.slotsPending then GenState.closing else GenState.closed).code] ++
           leBytes 4 ((s.window w).lastGen + 1) ++ [1] ++ leBytes 4 m.number) s
         ((if m.recordCount = 0 then id else raiseTrigger)
           (emit { kind := .genReleased, window := some w, generation := some m.number, cause := some (.release .depth) }
             ((if 0 < e.slotsPending then id
               else emit { kind := .genClosed, window := some w, generation := some e.number,
                           cause := some (.close .command) })
               (s.setWindow w { s.window w with
                 gens := middle ++ [{ e with
                     state := if 0 < e.slotsPending then .closing else .closed, closeCause := some .command },
                   { number := (s.window w).lastGen + 1, state := .opened, firstSeq := none, recordCount := 0,
                     slotsPending := 0, closeCause := none }]
                 lastGen := (s.window w).lastGen + 1
                 ring := released
                 quietClosePending := false
                 timer := { running := false, remaining := 0, lapsed := false, elapsed := 0 } }))))) ∧
       (m.recordCount = 0 → released = (s.window w).ring) ∧
       (0 < m.recordCount → released = { (s.window w).ring with
         tail := ((s.window w).ring.tail + m.recordCount) % (s.window w).capacity
         occupancy := (s.window w).ring.occupancy - m.recordCount
         full := (s.window w).ring.full && !decide ((s.window w).ring.occupancy - m.recordCount < (s.window w).capacity)
         high := (s.window w).ring.high &&
           !decide ((s.window w).ring.occupancy - m.recordCount < (s.window w).highThreshold) })) ∧
  (∀ (w : WindowIdx) (e : GenEntry) (s : State), s.por = false → (s.window w).state = .armed →
     (s.window w).gens = [e] → e.state = .opened → e.number ≤ (s.window w).lastGen → (s.window w).lastGen < 4294967295 →
     (s.window w).depth = 1 →
     (0 < e.slotsPending → exec (.close (windowByte w)) s = .next (taken .done 0x07
       (leBytes 4 e.number ++ [GenState.closing.code] ++ leBytes 4 ((s.window w).lastGen + 1) ++ [0, 0, 0, 0, 0]) s
       (s.setWindow w { s.window w with
         gens := [{ e with state := .closing, closeCause := some .command },
           { number := (s.window w).lastGen + 1, state := .opened, firstSeq := none, recordCount := 0,
             slotsPending := 0, closeCause := none }]
         lastGen := (s.window w).lastGen + 1
         quietClosePending := false
         timer := { running := false, remaining := 0, lapsed := false, elapsed := 0 } }))) ∧
     (e.slotsPending = 0 → ∃ released, exec (.close (windowByte w)) s = .next (taken .done 0x07
         (leBytes 4 e.number ++ [GenState.closed.code] ++ leBytes 4 ((s.window w).lastGen + 1) ++ [1] ++
           leBytes 4 e.number) s
         ((if e.recordCount = 0 then id else raiseTrigger)
           (emit { kind := .genReleased, window := some w, generation := some e.number, cause := some (.release .depth) }
             (emit { kind := .genClosed, window := some w, generation := some e.number,
                     cause := some (.close .command) }
               (s.setWindow w { s.window w with
                 gens := [{ number := (s.window w).lastGen + 1, state := .opened, firstSeq := none, recordCount := 0,
                            slotsPending := 0, closeCause := none }]
                 lastGen := (s.window w).lastGen + 1
                 ring := released
                 quietClosePending := false
                 timer := { running := false, remaining := 0, lapsed := false, elapsed := 0 } }))))) ∧
       (e.recordCount = 0 → released = (s.window w).ring) ∧
       (0 < e.recordCount → released = { (s.window w).ring with
         tail := ((s.window w).ring.tail + e.recordCount) % (s.window w).capacity
         occupancy := (s.window w).ring.occupancy - e.recordCount
         full := (s.window w).ring.full && !decide ((s.window w).ring.occupancy - e.recordCount < (s.window w).capacity)
         high := (s.window w).ring.high &&
           !decide ((s.window w).ring.occupancy - e.recordCount < (s.window w).highThreshold) })))

/-- RELEASE of an ARMED window (R15, R16, R60, R158): EMPTY when the oldest entry is the only one, BUSY when it is CLOSING;
else the oldest entry and its records are released with cause COMMAND. -/
def Obligations.ReleaseFreesTheOldestGeneration : Prop :=
  (∀ (w : WindowIdx) (m n : GenEntry) (rest : List GenEntry) (s : State), s.por = false → (s.window w).state = .armed →
    (s.window w).gens = m :: n :: rest → m.state ≠ .closing → m.recordCount = 0 →
    exec (.release (windowByte w)) s = .next (taken .done 0x08 (leBytes 4 m.number ++ leBytes 4 0) s
      (emit { kind := .genReleased, window := some w, generation := some m.number, cause := some (.release .command) }
        (s.setWindow w { s.window w with gens := n :: rest })))) ∧
  (∀ (w : WindowIdx) (m n : GenEntry) (rest : List GenEntry) (s : State), s.por = false → (s.window w).state = .armed →
    (s.window w).gens = m :: n :: rest → m.state ≠ .closing → 0 < m.recordCount →
    exec (.release (windowByte w)) s = .next (taken .done 0x08 (leBytes 4 m.number ++ leBytes 4 m.recordCount) s
      (raiseTrigger
        (emit { kind := .genReleased, window := some w, generation := some m.number, cause := some (.release .command) }
          (s.setWindow w { s.window w with
            gens := n :: rest
            ring := { (s.window w).ring with
              tail := ((s.window w).ring.tail + m.recordCount) % (s.window w).capacity
              occupancy := (s.window w).ring.occupancy - m.recordCount
              full := (s.window w).ring.full &&
                !decide ((s.window w).ring.occupancy - m.recordCount < (s.window w).capacity)
              high := (s.window w).ring.high &&
                !decide ((s.window w).ring.occupancy - m.recordCount < (s.window w).highThreshold) } }))))) ∧
  (∀ (w : WindowIdx) (m : GenEntry) (s : State), s.por = false → (s.window w).state = .armed → (s.window w).gens = [m] →
    exec (.release (windowByte w)) s = .next (taken .empty 0x08 [] s s)) ∧
  (∀ (w : WindowIdx) (m n : GenEntry) (rest : List GenEntry) (s : State), s.por = false → (s.window w).state = .armed →
    (s.window w).gens = m :: n :: rest → m.state = .closing →
    exec (.release (windowByte w)) s = .next (taken .busy 0x08 [] s s))

/-- REWIND of an ARMED window to a generation that its list holds (R67, R159): the context is created, the fence is raised,
the timer stops, the drain begins, and it ends at once when nothing is in flight (log 14). -/
def Obligations.RewindRaisesTheFence : Prop :=
  ∀ (w : WindowIdx) (g : BitVec 32) (s s1 : State), s.por = false → (s.window w).state = .armed →
    (s.window w).lastGen < 4294967295 → (∃ e ∈ (s.window w).gens, e.number = g.toNat) →
    s1 = raiseTrigger (s.setWindow w { s.window w with
      state := .rewinding
      rewind := some { target := g.toNat, targetMoved := false, phase := .drain, pauseRequested := false, stop := none,
                       restored := 0, skipped := 0, inHand := none }
      quietClosePending := false
      timer := { running := false, remaining := 0, lapsed := false, elapsed := 0 } }) →
    (drainEmpty s w = false → exec (.rewind (windowByte w) g) s =
      .next (taken .accepted 0x09 (leBytes 4 g.toNat ++ leBytes 4 (s.window w).openNumber) s s1)) ∧
    (drainEmpty s w = true → exec (.rewind (windowByte w) g) s =
      .next (taken .accepted 0x09 (leBytes 4 g.toNat ++ leBytes 4 (s.window w).openNumber) s (endDrain w s1)))

/-- PAUSE of a REWINDING window (R82, R160): ACCEPTED with the request set, or DONE with nothing changed when it was set; the
data are the phase and the counts, records remaining marked absent while the stop fields are. RESUME of a PAUSED window (R84,
R161): the walk goes on with the record in hand, taken again with its redo flag, or with the record at next position, or the
rewind completes. -/
def Obligations.PauseAndResumeSteerTheWalk : Prop :=
  (∀ (w : WindowIdx) (c : RewindContext) (s : State), s.por = false → (s.window w).state = .rewinding →
     (s.window w).rewind = some c →
     exec (.pause (windowByte w)) s = .next (taken (if c.pauseRequested then .done else .accepted) 0x0A
       ([c.phase.code] ++ leBytes 4 c.restored ++ leBytes 4 c.skipped ++ [flagByte c.stop.isSome] ++
         leBytes 4 ((c.stop.map (·.remaining)).getD 0)) s
       (s.setWindow w { s.window w with rewind := some { c with pauseRequested := true } }))) ∧
  (∀ (w : WindowIdx) (c : RewindContext) (f : StopFields) (s : State), s.por = false → (s.window w).state = .paused →
     (s.window w).rewind = some c → c.stop = some f →
     (∀ r, c.inHand = some r → exec (.resume (windowByte w)) s = .next (taken .accepted 0x0B
       (leBytes 4 f.remaining ++ [1] ++ leBytes 4 r.position ++ leBytes 4 r.sequence.toNat) s
       (grantRewindSource (raiseTrigger (s.setWindow w { s.window w with
         state := .rewinding
         rewind := some { c with
           phase := .walk
           inHand := some { position := r.position, sequence := r.sequence, kind := none, stage := .header, redo := true,
                            ready := true, headerLine := 0, dataLine := 0 } } }))))) ∧
     (c.inHand = none → 0 < f.remaining → exec (.resume (windowByte w)) s = .next (taken .accepted 0x0B
       (leBytes 4 f.remaining ++ [0] ++ leBytes 4 0 ++ leBytes 4 0) s
       (grantRewindSource (raiseTrigger (s.setWindow w { s.window w with
         state := .rewinding
         rewind := some { c with
           phase := .walk
           inHand := some { position := f.nextPosition, sequence := f.nextSequence, kind := none, stage := .header,
                            redo := false, ready := true, headerLine := 0, dataLine := 0 } } }))))) ∧
     (c.inHand = none → f.remaining = 0 → exec (.resume (windowByte w)) s = .next (taken .accepted 0x0B
       (leBytes 4 0 ++ [0] ++ leBytes 4 0 ++ leBytes 4 0) s
       (completeRewind w (raiseTrigger (s.setWindow w { s.window w with
         state := .rewinding, rewind := some { c with phase := .walk } }))))))

/-- DISARM of an ARMED, PAUSED or FAULTED window (R17, R19, R162): with no slot of the window, disarm completion at once,
DISARMED with the restored count of a context that was present; else DISARMING. -/
def Obligations.DisarmEndsTheArming : Prop :=
  ∀ (w : WindowIdx) (s : State), s.por = false →
    (s.window w).state = .armed ∨ (s.window w).state = .paused ∨ (s.window w).state = .faulted →
    (s.slotsOf w = [] → exec (.disarm (windowByte w)) s = .next (taken .done 0x0C
      ([flagByte (s.window w).rewind.isSome] ++ leBytes 4 (((s.window w).rewind.map (·.restored)).getD 0) ++ [0]) s
      (raiseTrigger (emit { kind := .disarmed, window := some w, restored := (s.window w).rewind.map (·.restored) }
        (s.setWindow w { s.window w with
          state := .defined, gens := [], rewind := none, fault := none
          ring := { tail := 0, head := 0, occupancy := 0, nextSeq := 0, full := false, high := false }
          quietClosePending := false
          timer := { running := false, remaining := 0, lapsed := false, elapsed := 0 } }))))) ∧
    (s.slotsOf w ≠ [] → exec (.disarm (windowByte w)) s = .next (taken .accepted 0x0C
      [0, 0, 0, 0, 0, BitVec.ofNat 8 (s.slotsOf w).length] s
      (raiseTrigger (s.setWindow w { s.window w with
        state := .disarming
        quietClosePending := false
        timer := { running := false, remaining := 0, lapsed := false, elapsed := 0 } }))))

/-- The QUERY pages (R166 to R169, R187, R188): each field stands in the response bytes that section 10.5 names, at the width
given there; `at_ page first last` is the number in response bytes `first` to `last`, the page beginning at byte 5. Page 0 of
a window without a binding reads 0 for the ring's base, size, threshold and capacity, and the remaining count reads 0 while
the timer is STOPPED. Page 1 reads 0 beyond the entries held. Page 2 has its fields whether or not the window has a context,
the context its stop fields and a record in hand, the window a fault record, and the fault record a sequence and a line; what
is absent reads 0. Page 3 has two bits for each requester. -/
def Obligations.PageBytesStandWhereTheLayoutSays : Prop :=
  let at_ (page : List Byte) (first last : Nat) : Nat := leValue ((page.drop (first - 5)).take (last + 1 - first))
  (∀ (w : WindowIdx) (s : State), (page0 s w).length = 58 ∧
    (at_ (page0 s w) 5 5 = (s.window w).state.code.toNat ∧ at_ (page0 s w) 6 10 = (s.window w).base.toNat ∧
     at_ (page0 s w) 11 15 = (s.window w).size % 2 ^ 40 ∧
     at_ (page0 s w) 16 16 = (s.window w).fault.isSome.toNat + 2 * (s.window w).rewind.isSome.toNat +
       4 * (s.window w).binding.isSome.toNat + 8 * (s.window w).autoClose.toNat +
       16 * (s.window w).quietTick.code.toNat ∧
     at_ (page0 s w) 17 17 = (s.window w).fence.code.toNat ∧ at_ (page0 s w) 18 18 = (s.window w).policy.code.toNat ∧
     at_ (page0 s w) 19 19 = (s.window w).depth % 2 ^ 8 ∧ at_ (page0 s w) 20 21 = (s.window w).quietReload % 2 ^ 16) ∧
    ((s.window w).binding = none → at_ (page0 s w) 22 37 = 0) ∧
    (∀ b, (s.window w).binding = some b → at_ (page0 s w) 22 26 = b.base.toNat ∧
      at_ (page0 s w) 27 29 = b.blocks % 2 ^ 24 ∧ at_ (page0 s w) 30 33 = b.high % 2 ^ 32 ∧
      at_ (page0 s w) 34 37 = b.blocks * 512 % 2 ^ 32) ∧
    (at_ (page0 s w) 38 41 = (s.window w).lastGen % 2 ^ 32 ∧ at_ (page0 s w) 42 42 = (s.window w).gens.length % 2 ^ 8 ∧
     at_ (page0 s w) 43 46 = (s.window w).ring.tail % 2 ^ 32 ∧ at_ (page0 s w) 47 50 = (s.window w).ring.head % 2 ^ 32 ∧
     at_ (page0 s w) 51 54 = (s.window w).ring.occupancy % 2 ^ 32 ∧
     at_ (page0 s w) 55 58 = (s.window w).ring.nextSeq.toNat ∧
     at_ (page0 s w) 59 59 = (s.window w).ring.full.toNat + 2 * (s.window w).ring.high.toNat +
       4 * (s.window w).timer.running.toNat + 8 * (s.window w).timer.lapsed.toNat +
       16 * (s.window w).quietClosePending.toNat ∧
     at_ (page0 s w) 60 61 = (if (s.window w).timer.running = true then (s.window w).timer.remaining % 2 ^ 16 else 0) ∧
     at_ (page0 s w) 62 62 = (s.slotsOf w).length % 2 ^ 8)) ∧
  (∀ v : Window, at_ (page1 v) 5 5 = v.gens.length % 2 ^ 8 ∧ at_ (page1 v) (6 + 11 * v.gens.length) 62 = 0 ∧
    ∀ (e : GenEntry) (k : Nat), v.gens[k]? = some e →
      at_ (page1 v) (6 + 11 * k) (9 + 11 * k) = e.number % 2 ^ 32 ∧
      at_ (page1 v) (10 + 11 * k) (10 + 11 * k) = e.state.code.toNat ∧
      (e.closeCause = none → at_ (page1 v) (11 + 11 * k) (11 + 11 * k) = 0) ∧
      (∀ cause, e.closeCause = some cause → at_ (page1 v) (11 + 11 * k) (11 + 11 * k) = cause.code.toNat) ∧
      at_ (page1 v) (12 + 11 * k) (15 + 11 * k) = e.recordCount % 2 ^ 32 ∧
      at_ (page1 v) (16 + 11 * k) (16 + 11 * k) = e.slotsPending % 2 ^ 8) ∧
  (∀ v : Window, (page2 v).length = 55 ∧
    (v.rewind = none → at_ (page2 v) 5 48 = 0) ∧
    (∀ c, v.rewind = some c →
      at_ (page2 v) 5 5 = 1 + 2 * c.targetMoved.toNat + 4 * c.pauseRequested.toNat + 8 * c.stop.isSome.toNat +
        16 * c.inHand.isSome.toNat + 32 * (c.inHand.any (·.redo)).toNat ∧
      at_ (page2 v) 6 6 = c.phase.code.toNat ∧ at_ (page2 v) 7 10 = c.target % 2 ^ 32 ∧
      (c.stop = none → at_ (page2 v) 11 30 = 0) ∧
      (∀ f, c.stop = some f →
        at_ (page2 v) 11 14 = f.stopPosition % 2 ^ 32 ∧ at_ (page2 v) 15 18 = f.stopSequence.toNat ∧
        at_ (page2 v) 19 22 = f.remaining % 2 ^ 32 ∧ at_ (page2 v) 23 26 = f.nextPosition % 2 ^ 32 ∧
        at_ (page2 v) 27 30 = f.nextSequence.toNat) ∧
      at_ (page2 v) 31 34 = c.restored % 2 ^ 32 ∧ at_ (page2 v) 35 38 = c.skipped % 2 ^ 32 ∧
      (c.inHand = none → at_ (page2 v) 39 48 = 0) ∧
      (∀ r, c.inHand = some r →
        at_ (page2 v) 39 42 = r.position % 2 ^ 32 ∧ at_ (page2 v) 43 46 = r.sequence.toNat ∧
        (r.kind = none → at_ (page2 v) 47 47 = 0) ∧
        (∀ kind, r.kind = some kind → at_ (page2 v) 47 47 = kind.code.toNat) ∧
        at_ (page2 v) 48 48 = r.stage.code.toNat)) ∧
    (v.fault = none → at_ (page2 v) 49 59 = 0) ∧
    (∀ f, v.fault = some f →
      at_ (page2 v) 49 49 = 1 + 2 * f.sequence.isSome.toNat + 4 * f.line.isSome.toNat ∧
      at_ (page2 v) 50 50 = f.cause.code.toNat ∧
      at_ (page2 v) 51 54 = ((f.sequence.map BitVec.toNat).getD 0) ∧
      at_ (page2 v) 55 59 = ((f.line.map Line.addr).getD 0))) ∧
  (∀ (v : Window) (r : Requester), (page3 v).length = 16 ∧
    at_ (page3 v) (5 + r.val / 4) (5 + r.val / 4) / 4 ^ (r.val % 4) % 4 = (v.classes[r]).code.toNat)

/-- READ_EVENT (R164): the oldest event leaves the queue and stands in the response with the lost flag and the count left; an
empty queue gives EMPTY; the lost flag is cleared either way, and the attention line follows the events left. The event
record has 46 bytes, and each field stands at the bytes of R189, with its presence bit; an absent field reads 0. -/
def Obligations.ReadEventTakesTheOldestEvent : Prop :=
  (∀ (e : Event) (rest : List Event) (s : State), s.por = false → s.events = e :: rest →
    exec .readEvent s = .next (taken .done 0x0F (eventBytes e ++ [flagByte s.lost, BitVec.ofNat 8 rest.length]) s
      { s with events := rest, lost := false })) ∧
  (∀ s : State, s.por = false → s.events = [] →
    exec .readEvent s = .next (taken .empty 0x0F (List.replicate 46 0 ++ [flagByte s.lost, 0]) s { s with lost := false })) ∧
  (∀ s t : State, s.por = false → exec .readEvent s = .next t →
    (attnDrivenLow t = true ↔ 1 < s.events.length ∧ s.attnEnable = true)) ∧
  (∀ (e : Event) (b : EventBody) (at_ : Nat → Nat → Nat), b = e.body →
    (∀ first last, at_ first last = leValue (((eventBytes e).drop first).take (last + 1 - first))) →
    (eventBytes e).length = 46 ∧
    at_ 0 0 = b.kind.code.toNat ∧ at_ 1 1 = b.window.isSome.toNat + 2 * b.generation.isSome.toNat ∧
    at_ 2 3 = b.cause.isSome.toNat + 2 * b.requester.isSome.toNat + 4 * b.tag.isSome.toNat + 8 * b.line.isSome.toNat +
      16 * b.sequence.isSome.toNat + 32 * b.source.isSome.toNat + 64 * b.occupancy.isSome.toNat +
      128 * b.target.isSome.toNat + 256 * b.targetMoved.isSome.toNat + 512 * b.exhausted.isSome.toNat +
      1024 * b.restored.isSome.toNat + 2048 * b.skipped.isSome.toNat + 4096 * b.remaining.isSome.toNat ∧
    at_ 4 5 = e.serial.toNat ∧ at_ 6 6 = (b.window.map (·.val)).getD 0 ∧ at_ 7 10 = b.generation.getD 0 % 2 ^ 32 ∧
    at_ 11 11 = (b.cause.map (·.code.toNat)).getD 0 ∧ at_ 12 12 = (b.requester.map (·.val)).getD 0 ∧
    at_ 13 13 = (b.tag.map BitVec.toNat).getD 0 ∧ at_ 14 18 = (b.line.map Line.addr).getD 0 ∧
    at_ 19 22 = (b.sequence.map BitVec.toNat).getD 0 ∧ at_ 23 23 = (b.source.map (·.code.toNat)).getD 0 ∧
    at_ 24 24 = (b.targetMoved.getD false).toNat ∧ at_ 25 25 = (b.exhausted.getD false).toNat ∧
    at_ 26 29 = b.occupancy.getD 0 % 2 ^ 32 ∧ at_ 30 33 = b.target.getD 0 % 2 ^ 32 ∧
    at_ 34 37 = b.restored.getD 0 % 2 ^ 32 ∧ at_ 38 41 = b.skipped.getD 0 % 2 ^ 32 ∧
    at_ 42 45 = b.remaining.getD 0 % 2 ^ 32)

/-- SET_PORT (R165): both values are set; a timeout of 0 or an enable that is no code gives BAD_PARAM and neither changes;
after POR the timeout is 1000 and attention is off. -/
def Obligations.SetPortSetsBothValues : Prop :=
  (∀ (timeout : BitVec 16) (a : Bool) (s : State), s.por = false → timeout ≠ 0 →
    exec (.setPort timeout (flagByte a)) s = .next (taken .done 0x10 (leBytes 2 timeout.toNat ++ [flagByte a]) s
      { s with timeout := timeout, attnEnable := a })) ∧
  (∀ (timeout : BitVec 16) (attention : Byte) (s : State), s.por = false →
    timeout = 0 ∨ (∀ a, attention ≠ flagByte a) →
    exec (.setPort timeout attention) s = .next (taken .badParam 0x10 [] s s)) ∧
  State.reset.timeout = 1000 ∧ State.reset.attnEnable = false

/-- FRAME_ERROR (R145): the reason in the order of the table, the whole bytes counted to 255, the command number as it was;
the held response is replaced and nothing else changes. -/
def Obligations.FrameErrorReplacesTheHeldResponse : Prop :=
  ∀ (bits : List Bool) (s : State), s.por = false → frameIsGood bits = false →
    ∃ reason : FrameReason, exec (.frameError bits) s =
      .next { s with held := (responseFrame .frameError 0x00 s.cmdNumber
        [reason.code, BitVec.ofNat 8 (min 255 (bits.length / 8))]) } ∧
      (bits.length < 128 → reason = .short) ∧ (128 < bits.length → reason = .long) ∧ (bits.length = 128 → reason = .crc)

/-- The tests that come before the parameters (R150): a code that is none of the sixteen, a window index above 15, a window
state in which the command is not taken. A refused command changes the held response and the command number alone (R149). -/
def Obligations.EarlyTestsRefuse : Prop :=
  (∀ (code : Byte) (s : State), s.por = false → code.toNat = 0 ∨ 16 < code.toNat →
    exec (.unknownCommand code) s = .next (taken .unknownCommand code [] s s)) ∧
  (∀ (c : Instr) (b code : Byte) (s : State), s.por = false → windowOperand c = some b → c.code = some code →
    15 < b.toNat → exec c s = .next (taken .badWindow code [] s s)) ∧
  (∀ (c : Instr) (w : WindowIdx) (code : Byte) (status : Status) (s : State), s.por = false →
    windowOperand c = some (windowByte w) → c.code = some code → stateTest c (s.window w).state = some status →
    exec c s = .next (taken status code [] s s)) ∧
  (∀ (w : WindowIdx) (s : State), s.por = false → (s.window w).state = .defined → (s.window w).binding = none →
    exec (.arm (windowByte w)) s = .next (taken .badState 0x06 [] s s))

/-- The tests of parameters and command conditions (R151 to R153, R156, R157, R159, R166), in their order. A DEFINE is refused
with OVERLAP over the range of another window and over its ring area. -/
def Obligations.LateTestsRefuse : Prop :=
  (∀ (w : WindowIdx) (base size : BitVec 40) (s : State), s.por = false →
    (s.window w).state = .unused ∨ (s.window w).state = .defined →
    ((base.toNat % 4096 ≠ 0 ∨ size.toNat % 4096 ≠ 0 ∨ size.toNat < 4096 ∨ 2 ^ 36 < size.toNat ∨
        2 ^ 40 < base.toNat + size.toNat) →
      exec (.define (windowByte w) base size) s = .next (taken .badParam 0x02 [] s s)) ∧
    (defineInRange base size = true →
      (∃ u, u ≠ w ∧ (s.window u).state ≠ .unused ∧ base.toNat < (s.window u).base.toNat + (s.window u).size ∧
        (s.window u).base.toNat < base.toNat + size.toNat) ∨
      (∃ u b, u ≠ w ∧ (s.window u).state ≠ .unused ∧ (s.window u).binding = some b ∧
        base.toNat < b.base.toNat + b.bytes ∧ b.base.toNat < base.toNat + size.toNat) →
      exec (.define (windowByte w) base size) s = .next (taken .overlap 0x02 [] s s))) ∧
  (∀ (w : WindowIdx) (fence policy depth : Byte) (reload : BitVec 16) (tick autoClose : Byte) (s : State), s.por = false →
    (s.window w).state = .defined →
    (∀ f : FenceMode, fence ≠ f.code) ∨ (∀ p : RingPolicy, policy ≠ p.code) ∨ depth.toNat = 0 ∨ 4 < depth.toNat ∨
      (∀ q : QuietTick, tick ≠ q.code) ∨ (∀ a, autoClose ≠ flagByte a) →
    exec (.configure (windowByte w) fence policy depth reload tick autoClose) s = .next (taken .badParam 0x03 [] s s)) ∧
  (∀ (w : WindowIdx) (base : BitVec 40) (blocks : BitVec 24) (high : BitVec 32) (s : State), s.por = false →
    (s.window w).state = .defined →
    (base.toNat % 65536 ≠ 0 ∨ blocks.toNat = 0 ∨ 65536 < blocks.toNat ∨ 2 ^ 40 < base.toNat + blocks.toNat * 65536 ∨
        high.toNat = 0 ∨ blocks.toNat * 512 < high.toNat →
      exec (.bindRing (windowByte w) base blocks high) s = .next (taken .badParam 0x04 [] s s)) ∧
    (bindInRange base { base := base, blocks := blocks.toNat, high := high.toNat } = true →
      (overlapsWindow s (fun _ => false) base.toNat (blocks.toNat * 65536) = true ∨
        overlapsRing s w base.toNat (blocks.toNat * 65536) = true) →
      exec (.bindRing (windowByte w) base blocks high) s = .next (taken .overlap 0x04 [] s s)) ∧
    (bindInRange base { base := base, blocks := blocks.toNat, high := high.toNat } = true →
      overlapsWindow s (fun _ => false) base.toNat (blocks.toNat * 65536) = false →
      overlapsRing s w base.toNat (blocks.toNat * 65536) = false →
      placedWriteIn s base.toNat (blocks.toNat * 65536) = true →
      exec (.bindRing (windowByte w) base blocks high) s = .next (taken .busy 0x04 [] s s))) ∧
  (∀ (w : WindowIdx) (s : State), s.por = false → (s.window w).state = .defined → (s.window w).binding ≠ none →
    4294967295 ≤ (s.window w).lastGen → exec (.arm (windowByte w)) s = .next (taken .exhausted 0x06 [] s s)) ∧
  (∀ (w : WindowIdx) (s : State), s.por = false → (s.window w).state = .armed →
    ((∃ e ∈ (s.window w).gens, e.state = .closing) →
      exec (.close (windowByte w)) s = .next (taken .busy 0x07 [] s s)) ∧
    ((∀ e ∈ (s.window w).gens, e.state ≠ .closing) → 4294967295 ≤ (s.window w).lastGen →
      exec (.close (windowByte w)) s = .next (taken .exhausted 0x07 [] s s))) ∧
  (∀ (w : WindowIdx) (g : BitVec 32) (s : State), s.por = false → (s.window w).state = .armed →
    (4294967295 ≤ (s.window w).lastGen → exec (.rewind (windowByte w) g) s = .next (taken .exhausted 0x09 [] s s)) ∧
    ((s.window w).lastGen < 4294967295 → (∀ e ∈ (s.window w).gens, e.number ≠ g.toNat) →
      exec (.rewind (windowByte w) g) s = .next (taken .noTarget 0x09 [] s s))) ∧
  (∀ (w : WindowIdx) (page : Byte) (s : State), s.por = false → 3 < page.toNat →
    exec (.query (windowByte w) page) s = .next (taken .badParam 0x0E [] s s))

/-- Every taken command, whatever its status, raises the command number by one and leaves a response of 64 bytes with its
code as the echo, the new command number, and the CRC-8 of the 63 bytes before it (R144, R146, R148). -/
def Obligations.EveryTakenCommandLeavesItsResponse : Prop :=
  ∀ (c : Instr) (code : Byte) (s : State), s.por = false → c.wellFormed = true → c.code = some code →
    ∃ t, exec c s = .next t ∧ t.cmdNumber = s.cmdNumber + 1 ∧ t.held.length = 64 ∧ t.held.getD 1 0 = code ∧
      t.held.getD 2 0 = s.cmdNumber + 1 ∧ t.held.getD 63 0 = crc8 (t.held.take 63)

/-- What no management command changes, and what only some of them change; of the windows, only the one it names. -/
def Obligations.ManagementCommandsLeaveThePortsAlone : Prop :=
  ∀ (c : Instr) (s t : State), c.code ≠ none → exec c s = .next t →
    t = { s with
      windows := t.windows, events := t.events, serial := t.serial, lost := t.lost, reexamDue := t.reexamDue
      cmdNumber := t.cmdNumber, held := t.held, filter := t.filter, park := t.park, rewindOffer := t.rewindOffer
      rewindLast := t.rewindLast, timeout := t.timeout, attnEnable := t.attnEnable } ∧
    (∀ w : WindowIdx, windowOperand c ≠ some (windowByte w) → (∀ u g, c ≠ .rewind u g) → (∀ u, c ≠ .resume u) →
      t.window w = s.window w) ∧
    ((∀ w b z, c ≠ .define w b z) → (∀ w, c ≠ .delete w) → t.filter = s.filter ∧ t.park = s.park) ∧
    ((∀ w g, c ≠ .rewind w g) → (∀ w, c ≠ .resume w) → t.rewindOffer = s.rewindOffer ∧ t.rewindLast = s.rewindLast) ∧
    ((∀ n a, c ≠ .setPort n a) → t.timeout = s.timeout ∧ t.attnEnable = s.attnEnable)

/-- A command frame, sent as its 128 bits with its check, is decoded to the command it was made from: no parameter bit is
dropped (R144, R146, R185). -/
def Obligations.FramesDecodeToTheirCommand : Prop :=
  ∀ (c : Instr) (bits : List Bool), c.wellFormed = true → c.frameBits = some bits →
    bits.length = 128 ∧ frameIsGood bits = true ∧ commandOfTransfer bits = c

/-- What a whole transfer on the wires does (R143 to R145, R147). A COMMAND transfer ends in its command or its frame error,
which the model puts at the end of the queue of commands (the model's choice, log 12); a transfer with another lead byte, or
with fewer than eight bits, leaves no command. While the port waits for CS_N to rise after a release of POR_N (R142), a
transfer is not looked at, and its rise of CS_N ends the wait. A response read: after the lead byte, MISO carries the 64 bytes
of the held response, byte 0 first, most significant bit first, and ones beyond; MOSI is not looked at, and at any point the
transfer ends with nothing changed. -/
def Obligations.TransfersDoWhatTheirLeadByteSays : Prop :=
  (∀ (bits : List Bool) (s : State), s.por = false → s.waitCsRise = false →
    spiTransfer (byteBits 0x3C ++ bits) s =
      { s with transfer := .idle, frameBuffer := [], pending := s.pending ++ [commandOfTransfer bits] }) ∧
  (∀ (lead : Byte) (bits : List Bool) (s : State), s.por = false → s.waitCsRise = false → lead ≠ 0x3C →
    spiTransfer (byteBits lead ++ bits) s = { s with transfer := .idle, frameBuffer := [] }) ∧
  (∀ (bits : List Bool) (s : State), s.por = false → s.waitCsRise = false → bits.length < 8 →
    spiTransfer bits s = { s with transfer := .idle, frameBuffer := [] }) ∧
  (∀ (bits : List Bool) (s : State), s.por = false → s.waitCsRise = true → s.transfer = .idle →
    spiTransfer bits s = { s with frameBuffer := [], waitCsRise := false }) ∧
  (∀ (mosi : List Bool) (s t : State), s.por = false → s.waitCsRise = false →
    t = (byteBits 0xC3 ++ mosi).foldl (fun u b => sckRise b u) (csFall s) →
    misoBit t = some ((s.held.flatMap byteBits).getD mosi.length true) ∧ t.held = s.held ∧ t.pending = s.pending ∧
      csRise t = { s with transfer := .idle, frameBuffer := [] })

/-! ### The undo record -/

/-- The undo record (R36, R49, R62 to R65, R184). A record's header line is at ring base plus 128 times its position, its data
line 64 bytes above. The header written for a slot carries, in the bytes of R184, kind, window, requester, generation,
sequence, line address and check, and zeros; the check is the CRC-32 of the first 60 bytes, followed in a CAPTURE record by
the 64 data bytes. The tests of R64 pass exactly on the bytes that R64 and R184 name. So a record written by a slot passes
them all: the kind, window and sequence tests, the check, and, when its line lies in the window, the line-address test, which
gives that line back. -/
def Obligations.TheUndoRecordIsWrittenAndTested : Prop :=
  let field (h : LineData) (first last : Nat) : Nat := leValue (((lineBytes h).drop first).take (last + 1 - first))
  (∀ (v : Window) (b : RingBinding) (p : Nat), v.binding = some b → b.base.toNat % 64 = 0 →
    b.base.toNat + 128 * p + 128 ≤ 2 ^ 40 →
    Line.addr (v.headerLine p) = b.base.toNat + 128 * p ∧ Line.addr (v.dataLine p) = b.base.toNat + 128 * p + 64) ∧
  (∀ (sl : Slot) (data h : LineData) (kind : RecordKind),
    (kind = .capture ∧ h = captureHeader sl data) ∨ (kind = .void ∧ h = voidHeader sl) →
    field h 0 0 = (match kind with | .capture => 0x5A | .void => 0xA5) ∧ field h 1 1 = sl.window.val ∧
    field h 2 2 = sl.trigger.requester.val ∧ field h 3 3 = 0 ∧ field h 4 7 = sl.generation % 2 ^ 32 ∧
    field h 8 11 = sl.sequence.toNat ∧ field h 12 16 = Line.addr sl.line ∧ field h 17 59 = 0 ∧
    field h 60 63 = (crc32 ((lineBytes h).take 60 ++ (match kind with | .capture => lineBytes data | .void => []))).toNat ∧
    acceptHeader sl.window sl.sequence h = some kind) ∧
  (∀ (sl : Slot) (data : LineData) (v : Window), captureCheckValid (captureHeader sl data) data = true ∧
    voidCheckValid (voidHeader sl) = true ∧ recordedLine (captureHeader sl data) = sl.line ∧
    addressValid v (captureHeader sl data) = v.covers sl.line) ∧
  (∀ (w : WindowIdx) (q : Seq) (h : LineData),
    (acceptHeader w q h = some .capture ↔ field h 0 0 = 0x5A ∧ field h 1 1 = w.val ∧ field h 8 11 = q.toNat) ∧
    (acceptHeader w q h = some .void ↔ field h 0 0 = 0xA5 ∧ field h 1 1 = w.val ∧ field h 8 11 = q.toNat)) ∧
  (∀ (v : Window) (h data : LineData),
    (addressValid v h = true ↔ field h 12 16 % 64 = 0 ∧ v.base.toNat ≤ field h 12 16 ∧
      field h 12 16 < v.base.toNat + v.size) ∧
    (addressValid v h = true → Line.addr (recordedLine h) = field h 12 16) ∧
    (voidCheckValid h = true ↔ field h 60 63 = (crc32 ((lineBytes h).take 60)).toNat) ∧
    (captureCheckValid h data = true ↔ field h 60 63 = (crc32 ((lineBytes h).take 60 ++ lineBytes data)).toNat))

/-! ### The event queue and the attention line -/

/-- A produced event takes the serial counter's value and the counter rises; its record is stored at the newest end while the
queue holds fewer than 64, and is dropped with the lost flag set otherwise (R171, R172, R173). ATTN_N is driven low exactly
while the queue holds a record and attention is on (R178), and never under POR (R177). -/
def Obligations.EventsAndAttentionFollowTheirRules : Prop :=
  ((∀ (b : EventBody) (s : State), s.events.length < 64 →
     emit b s = { s with events := s.events ++ [{ serial := s.serial, body := b }], serial := s.serial + 1 }) ∧
   (∀ (b : EventBody) (s : State), 64 ≤ s.events.length → emit b s = { s with serial := s.serial + 1, lost := true })) ∧
  (∀ s : State, (s.por = false → (attnDrivenLow s = true ↔ s.events ≠ [] ∧ s.attnEnable = true)) ∧
     (s.por = true → attnDrivenLow s = false))

/-! ### The system port -/

/-- TAG_REUSE (R106): whatever else the arrival is, it is answered FAULT, the event is produced, and nothing else changes; a
tag that is not admitted is no reuse, whatever waits in the response queue. A WRITE that passes R106 and enables no byte is
answered DONE at once, wherever it points, and nothing else changes (R107). -/
def Obligations.AReusedTagAndAnEmptyWriteAreAnsweredAtOnce : Prop :=
  ∀ (r : SysRequest) (s : State), s.por = false → s.srst = false → s.waiting = none →
    s.admitted.length + s.responses.length < 64 → passOwed s = false →
    ((r.requester, r.tag) ∈ s.admitted → exec (.systemRequest r) s =
      .next (emit { kind := .tagReuse, requester := some r.requester, tag := some r.tag, line := some r.line }
        { s with responses :=
          s.responses ++ [{ requester := r.requester, tag := r.tag, status := .fault, data := none }] })) ∧
    ((r.requester, r.tag) ∉ s.admitted → ∃ t, exec (.systemRequest r) s = .next t ∧
      ∀ e ∈ t.events, e ∉ s.events → e.body.kind ≠ .tagReuse) ∧
    (∀ data, (r.requester, r.tag) ∉ s.admitted → r.op = .write data 0 → exec (.systemRequest r) s = .next { s with
      responses := s.responses ++ [{ requester := r.requester, tag := r.tag, status := .done, data := none }] })

/-- TRESPASS (R108): a write into the ring area of a window that is not UNUSED. DENIED_WRITE (R110): a write of a READ_ONLY
requester, in every state of its window. Both are answered FAULT and leave nothing behind but the event. -/
def Obligations.TrespassAndDeniedWritesAreRefused : Prop :=
  (∀ (w : WindowIdx) (r : SysRequest) (data : LineData) (enables : Enables) (s : State), TakenFresh r s →
    r.op = .write data enables → (s.window w).state ≠ .unused → (s.window w).ringCovers r.line = true →
    (∀ u, u ≠ w → (s.window u).state ≠ .unused → (s.window u).ringCovers r.line = false) →
    exec (.systemRequest r) s =
      .next (emit { kind := .trespass, window := some w, requester := some r.requester, line := some r.line }
        { s with responses :=
          s.responses ++ [{ requester := r.requester, tag := r.tag, status := .fault, data := none }] })) ∧
  (∀ (w : WindowIdx) (r : SysRequest) (data : LineData) (enables : Enables) (s : State), TakenFresh r s →
    r.op = .write data enables → LiesIn s w r.line → (s.window w).classes[r.requester] = .readOnly →
    exec (.systemRequest r) s =
      .next (emit { kind := .deniedWrite, window := some w, requester := some r.requester, line := some r.line }
        { s with responses :=
          s.responses ++ [{ requester := r.requester, tag := r.tag, status := .fault, data := none }] }))

/-- Forwarding (R115, R116): a request whose line is not busy and that lies in no window, or, but for writes of READ_ONLY
requesters, in a DEFINED or DISARMING one, or is a read of an ARMED one, enters the forward queue. A read of a ring area is
untracked (R108). A write of an ARMED window that the filter knows is forwarded without a capture, and its placement is
reported to the window's quiet timer (R25, R92, R115, R116). -/
def Obligations.TrafficWithoutACaptureIsForwarded : Prop :=
  (∀ (r : SysRequest) (s : State), TakenFresh r s → lineFree s r.line →
     ((r.op = .read ∧ ¬inNoRing s r.line) ∨
      (inNoRing s r.line ∧ ∀ u, (s.window u).state ≠ .unused → (s.window u).covers r.line = false) ∨
      (∃ w, LiesIn s w r.line ∧ (r.op.isWrite = true → (s.window w).classes[r.requester] ≠ .readOnly) ∧
        ((s.window w).state = .defined ∨ (s.window w).state = .disarming ∨
          ((s.window w).state = .armed ∧ r.op = .read)))) →
     exec (.systemRequest r) s = .next { s with
       admitted := s.admitted ++ [(r.requester, r.tag)]
       forwardQ := s.forwardQ ++ [{ owner := .request r.requester r.tag, line := r.line, op := r.op }] }) ∧
  (∀ (w : WindowIdx) (r : SysRequest) (data : LineData) (enables : Enables) (s : State), TakenFresh r s →
     r.op = .write data enables → LiesIn s w r.line → (s.window w).state = .armed →
     (s.window w).classes[r.requester] ≠ .readOnly → lineFree s r.line → filterHit s w r.line = true →
     exec (.systemRequest r) s = .next (State.setWindow { s with
         admitted := s.admitted ++ [(r.requester, r.tag)]
         forwardQ := s.forwardQ ++ [{ owner := .request r.requester r.tag, line := r.line, op := r.op }] } w
       { s.window w with timer := (s.window w).timerAfterPlacement ((s.window w).classes[r.requester]) }))

/-- A filter miss with a free slot and room in the ring (R30, R31, R33, R51, R52, R131): the lowest-numbered free slot
carries the write, its record is the head position with the next sequence number, the generation's counts rise, the capture
read is handed to the CAPTURE source, the placement is reported to the timer, and RING_HIGH is produced when occupancy
reaches the threshold with the high flag clear. -/
def Obligations.AFilterMissIsCaptured : Prop :=
  ∀ (w : WindowIdx) (k : SlotIdx) (r : SysRequest) (data : LineData) (enables : Enables) (s t : State), TakenFresh r s →
    r.op = .write data enables → LiesIn s w r.line → (s.window w).state = .armed →
    (s.window w).classes[r.requester] ≠ .readOnly → lineFree s r.line → filterHit s w r.line = false →
    LowestFree s k → (s.window w).ring.occupancy < (s.window w).capacity →
    t = State.setSlot (State.setWindow { s with
        admitted := s.admitted ++ [(r.requester, r.tag)]
        captureQ := s.captureQ ++ [{ owner := .capture k .captureRead, line := r.line, op := .read }] } w
      { s.window w with
        ring := { (s.window w).ring with
          head := ((s.window w).ring.head + 1) % (s.window w).capacity
          nextSeq := (s.window w).ring.nextSeq + 1
          occupancy := (s.window w).ring.occupancy + 1
          high := (s.window w).ring.high || decide ((s.window w).ring.occupancy + 1 = (s.window w).highThreshold) }
        gens := (s.window w).gens.map (fun e => if e.state = .opened then
            { e with
              recordCount := e.recordCount + 1, slotsPending := e.slotsPending + 1
              firstSeq := if e.firstSeq.isNone then some (s.window w).ring.nextSeq else e.firstSeq }
          else e)
        timer := (s.window w).timerAfterPlacement ((s.window w).classes[r.requester]) }) k
      (some { phase := .reading, window := w, generation := (s.window w).openNumber, position := (s.window w).ring.head,
              sequence := (s.window w).ring.nextSeq, line := r.line,
              trigger := { requester := r.requester, tag := r.tag, data := data, enables := enables }, dropped := false,
              headerAnswered := false, dataAnswered := false, writeFailed := false }) →
    exec (.systemRequest r) s = .next
      (if (s.window w).ring.high = false ∧ (s.window w).ring.occupancy + 1 = (s.window w).highThreshold then
        emit { kind := .ringHigh, window := some w, generation := some (s.window w).openNumber,
               occupancy := some ((s.window w).ring.occupancy + 1) } t
       else t)

/-- What parks (R113, R115, R117, R118, R30, R56): a busy line outside a fence, a miss with no slot free, a full ring under
HOLD (with RING_FULL when the full flag was clear), a fence under HOLD. With 32 entries in the list the request is the
waiting arrival and nothing else changes (log 9). -/
def Obligations.ARequestThatCannotProceedParks : Prop :=
  (∀ (w : WindowIdx) (r : SysRequest) (s : State), TakenFresh r s → LiesIn s w r.line →
      (r.op.isWrite = true → (s.window w).classes[r.requester] ≠ .readOnly) →
      ∀ (reason : ParkReason) (t : State),
      ((reason = .fenced ∧ ((s.window w).state = .rewinding ∨ (s.window w).state = .paused) ∧ (s.window w).fence = .hold ∧
          t = s) ∨
       (reason = .lineBusy ∧ ((s.window w).state = .defined ∨ (s.window w).state = .armed ∨
          (s.window w).state = .disarming) ∧ ¬lineFree s r.line ∧ t = s) ∨
       (reason = .noSlot ∧ (s.window w).state = .armed ∧ r.op.isWrite = true ∧ lineFree s r.line ∧
          filterHit s w r.line = false ∧ (∀ k, s.slot k ≠ none) ∧ t = s) ∨
       (reason = .ringFull ∧ (s.window w).state = .armed ∧ r.op.isWrite = true ∧ lineFree s r.line ∧
          filterHit s w r.line = false ∧ (∃ k, s.slot k = none) ∧ (s.window w).policy = .hold ∧
          (s.window w).capacity ≤ (s.window w).ring.occupancy ∧
          t = (if (s.window w).ring.full = true then s
            else emit { kind := .ringFull, window := some w, generation := some (s.window w).openNumber,
                        requester := some r.requester, line := some r.line }
              (s.setWindow w { s.window w with ring := { (s.window w).ring with full := true } })))) →
      (s.park.length < 32 → exec (.systemRequest r) s = .next { t with
        admitted := s.admitted ++ [(r.requester, r.tag)]
        park := s.park ++
          [{ request := r, place := some (w, (s.window w).classes[r.requester]), reason := reason }] }) ∧
      (32 ≤ s.park.length → exec (.systemRequest r) s = .next { s with waiting := some r })) ∧
  (∀ (r : SysRequest) (s : State), TakenFresh r s → ¬lineFree s r.line →
     ((r.op = .read ∧ ¬inNoRing s r.line) ∨
       (inNoRing s r.line ∧ ∀ u, (s.window u).state ≠ .unused → (s.window u).covers r.line = false)) →
     (s.park.length < 32 → exec (.systemRequest r) s = .next { s with
       admitted := s.admitted ++ [(r.requester, r.tag)]
       park := s.park ++ [{ request := r, place := none, reason := .lineBusy }] }) ∧
     (32 ≤ s.park.length → exec (.systemRequest r) s = .next { s with waiting := some r }))

/-- What is answered FAULT without an event of the admission unit (R115, R117, R55, R57, R58): any request of a FAULTED
window, any request of a fenced window under fence mode REFUSE, a write that finds the ring full under REFUSE, or under
RECLAIM when the oldest generation is not CLOSED; the ring's two cases set the full flag and produce RING_FULL when it was
clear. The fence law at the system port (R117): a request classified into a window that is REWINDING, PAUSED or FAULTED is
not placed: neither the forward queue nor the capture queue nor any slot changes. -/
def Obligations.ClosedWindowsAnswerFault : Prop :=
  (∀ (w : WindowIdx) (r : SysRequest) (s t : State), TakenFresh r s → LiesIn s w r.line →
     (r.op.isWrite = true → (s.window w).classes[r.requester] ≠ .readOnly) →
     (((s.window w).state = .faulted ∧ t = s) ∨
      (((s.window w).state = .rewinding ∨ (s.window w).state = .paused) ∧ (s.window w).fence = .refuse ∧ t = s) ∨
      ((s.window w).state = .armed ∧ r.op.isWrite = true ∧ lineFree s r.line ∧ filterHit s w r.line = false ∧
         (∃ k, s.slot k = none) ∧ (s.window w).capacity ≤ (s.window w).ring.occupancy ∧
         ((s.window w).policy = .refuse ∨ ((s.window w).policy = .reclaim ∧
           ∀ m rest, (s.window w).gens = m :: rest → m.state ≠ .closed)) ∧
         t = (if (s.window w).ring.full = true then s
           else emit { kind := .ringFull, window := some w, generation := some (s.window w).openNumber,
                       requester := some r.requester, line := some r.line }
             (s.setWindow w { s.window w with ring := { (s.window w).ring with full := true } })))) →
     exec (.systemRequest r) s = .next { t with
       responses := s.responses ++ [{ requester := r.requester, tag := r.tag, status := .fault, data := none }] }) ∧
  (∀ (w : WindowIdx) (r : SysRequest) (s t : State), passOwed s = false → LiesIn s w r.line →
     (s.window w).state = .rewinding ∨ (s.window w).state = .paused ∨ (s.window w).state = .faulted →
     exec (.systemRequest r) s = .next t →
     t.forwardQ = s.forwardQ ∧ t.captureQ = s.captureQ ∧ t.slots = s.slots ∧ t.windows = s.windows ∧ t.table = s.table)

/-- RECLAIM (R58): a write that misses and finds the ring full, with the oldest generation CLOSED and holding records,
releases that generation, with GEN_RELEASED and cause RECLAIM, and is captured at the head. -/
def Obligations.ReclaimMakesRoomForTheCapture : Prop :=
  ∀ (w : WindowIdx) (m : GenEntry) (rest : List GenEntry) (r : SysRequest) (data : LineData) (enables : Enables) (s : State),
    TakenFresh r s → r.op = .write data enables → LiesIn s w r.line → (s.window w).state = .armed →
    (s.window w).classes[r.requester] ≠ .readOnly → lineFree s r.line → filterHit s w r.line = false →
    (∃ k, s.slot k = none) → (s.window w).policy = .reclaim → (s.window w).ring.occupancy = (s.window w).capacity →
    0 < (s.window w).capacity → (s.window w).gens = m :: rest → m.state = .closed → 0 < m.recordCount →
    ∃ k t, LowestFree s k ∧ exec (.systemRequest r) s = .next t ∧
      (s.events.length < 64 → ∃ more, t.events = s.events ++ { serial := s.serial, body :=
        { kind := .genReleased, window := some w, generation := some m.number,
          cause := some (.release .reclaim) } } :: more) ∧
      (t.window w).ring.tail = ((s.window w).ring.tail + m.recordCount) % (s.window w).capacity ∧
      (t.window w).ring.occupancy = (s.window w).capacity - m.recordCount + 1 ∧
      (t.window w).ring.head = ((s.window w).ring.head + 1) % (s.window w).capacity ∧
      (t.window w).gens.map (·.number) = rest.map (·.number) ∧
      ((t.slot k).map (fun sl => (sl.window, sl.position, sl.sequence, sl.line, sl.phase))) =
        some (w, (s.window w).ring.head, (s.window w).ring.nextSeq, r.line, .reading) ∧
      (r.requester, r.tag) ∈ t.admitted ∧ t.responses = s.responses ∧ t.park = s.park

/-- The system port's handshakes (R104, R105, R120, R190): a request presented while SRST_N is asserted, an arrival waits, or 64
requests and responses are held is left on the channel (log 3). A request that is taken while passes are owed is decided after
them, on the state they leave, in which none is owed (R120; log 4). Accept is low under POR. With no waiting arrival it is high
exactly when SYSTEM_REQUEST takes the request, so that it is low for one that must wait. A waiting arrival sees it high exactly
at the end of a pass, when the decision takes it. A delivery takes the oldest response. -/
def Obligations.TheSystemPortTakesAndDelivers : Prop :=
  (∀ (r : SysRequest) (s : State),
    s.srst = true ∨ s.waiting ≠ none ∨ 64 ≤ s.admitted.length + s.responses.length →
    exec (.systemRequest r) s = .next s) ∧
  (∀ (r : SysRequest) (s : State), s.por = false → s.srst = false → s.waiting = none →
    s.admitted.length + s.responses.length < 64 → passOwed s = true →
    ∃ n t, t = finishPass^[n] s ∧ passOwed t = false ∧ exec (.systemRequest r) s = exec (.systemRequest r) t) ∧
  (∀ (r : SysRequest) (s : State),
    (s.por = true → systemRequestAccept r s = false) ∧
    (s.waiting = none → (s.srst = true ∨ 64 ≤ s.admitted.length + s.responses.length) →
      systemRequestAccept r s = false) ∧
    (s.por = false → s.srst = false → s.waiting = none → s.admitted.length + s.responses.length < 64 →
      ∃ t, exec (.systemRequest r) s = .next t ∧ (systemRequestAccept r s = true ↔ t.waiting = none)) ∧
    (s.por = false → s.pending = [] → s.waiting = some r →
      (s.pass = some s.park.length → ∃ t, step s = .next t ∧ (systemRequestAccept r s = true ↔ t.waiting = none)) ∧
      (s.pass ≠ some s.park.length → systemRequestAccept r s = false))) ∧
  (∀ (r : SysResponse) (rest : List SysResponse) (s : State), s.por = false → s.responses = r :: rest →
    systemResponseOut s = some r ∧ exec .systemResponseDelivery s = .next { s with responses := rest })

/-- The decisions of a re-examination (R119, R120, R193 to R196). With no pass owed RE_EXAMINATION changes nothing (log 3). It
makes the decisions of the pass owed, or of the pass in progress, one after the other to the end; with no command waiting a
step is one decision, so that other commands can come between two (log 17). A pass begins at the oldest entry. An entry leaves
the list when it is forwarded or answered, and else stays in its place with its new reason; only the entries before it are
older. After the last entry the waiting arrival is decided as a new arrival. A trigger raised in a pass is kept for a further
pass. Spelled out for whole passes: a lone entry of an untracked, free line; entries fenced under HOLD; a waiting arrival. -/
def Obligations.AReExaminationDecidesTheParkList : Prop :=
  (∀ s : State, passOwed s = false → exec .reExamination s = .next s) ∧
  (∀ s : State, s.por = false → passOwed s = true →
    (s.pending = [] → step s = .next (passStep s)) ∧
    ((passStep s).pass = none → exec .reExamination s = .next (passStep s)) ∧
    ((passStep s).pass ≠ none → exec .reExamination s = exec .reExamination (passStep s))) ∧
  (∀ s : State, s.pass = none → passStep s = passStep { s with pass := some 0, reexamDue := false }) ∧
  (∀ (n : Nat) (e : ParkEntry) (s : State), s.pass = some n → s.park[n]? = some e →
    (e.place = none → inNoRing s e.request.line →
      (∀ u, (s.window u).state ≠ .unused → (s.window u).covers e.request.line = false) →
      lineHeld s e.request.line = false → (∀ o ∈ s.park.take n, o.request.line ≠ e.request.line) →
      passStep s = { s with
        park := s.park.eraseIdx n
        forwardQ := s.forwardQ ++
          [{ owner := .request e.request.requester e.request.tag, line := e.request.line, op := e.request.op }] }) ∧
    (∀ w c, e.place = some (w, c) → (s.window w).state = .faulted ∨
        (((s.window w).state = .rewinding ∨ (s.window w).state = .paused) ∧ (s.window w).fence = .refuse) →
      (e.request.requester, e.request.tag) ∈ s.admitted →
      passStep s = { s with
        park := s.park.eraseIdx n
        admitted := s.admitted.erase (e.request.requester, e.request.tag)
        responses := s.responses ++
          [{ requester := e.request.requester, tag := e.request.tag, status := .fault, data := none }] }) ∧
    (∀ w c, e.place = some (w, c) → (s.window w).state = .rewinding ∨ (s.window w).state = .paused →
      (s.window w).fence = .hold →
      passStep s = { s with park := s.park.set n { e with reason := .fenced }, pass := some (n + 1) }) ∧
    (∀ w c, e.place = some (w, c) → (s.window w).state = .armed ∨ (s.window w).state = .defined ∨
        (s.window w).state = .disarming →
      lineHeld s e.request.line = true ∨ (∃ o ∈ s.park.take n, o.request.line = e.request.line) →
      passStep s = { s with park := s.park.set n { e with reason := .lineBusy }, pass := some (n + 1) })) ∧
  (∀ s : State, s.pass = some s.park.length →
    (s.waiting = none → passStep s = { s with pass := none }) ∧
    (∀ r, s.waiting = some r → passStep s = arrive r { s with pass := none, waiting := none })) ∧
  (∀ s : State, s.pass ≠ none → s.reexamDue = true → (passStep s).reexamDue = true) ∧
  (∀ (e : ParkEntry) (s : State), s.por = false → s.reexamDue = true → s.pass = none → s.waiting = none → s.park = [e] →
    e.place = none → inNoRing s e.request.line →
    (∀ u, (s.window u).state ≠ .unused → (s.window u).covers e.request.line = false) → lineHeld s e.request.line = false →
    exec .reExamination s = .next { s with
      reexamDue := false, park := []
      forwardQ := s.forwardQ ++
        [{ owner := .request e.request.requester e.request.tag, line := e.request.line, op := e.request.op }] }) ∧
  (∀ s : State, s.por = false → s.reexamDue = true → s.pass = none → s.waiting = none →
    (∀ e ∈ s.park, ∃ w c, e.place = some (w, c) ∧ ((s.window w).state = .rewinding ∨ (s.window w).state = .paused) ∧
      (s.window w).fence = .hold) →
    exec .reExamination s = .next { s with
      reexamDue := false, park := s.park.map (fun e => { e with reason := .fenced }) }) ∧
  (∀ (r : SysRequest) (s : State), s.por = false → s.reexamDue = true → s.pass = none → s.waiting = some r → s.park = [] →
    exec .reExamination s = .next (arrive r { s with reexamDue := false, waiting := none }))

/-! ### The quiet timers -/

/-- The table of R94 (with R93): what a reported write placement does to the timer. -/
def Obligations.TheTimerFollowsTheWriteTable : Prop :=
  ∀ (v : Window) (c : ReqClass) (loaded : QuietTimer),
    loaded = { running := true, remaining := v.quietReload, lapsed := false, elapsed := 0 } →
    (v.quietReload = 0 → v.timerAfterPlacement c = v.timer) ∧
    (0 < v.quietReload → v.timer.running = false → v.timer.lapsed = false → v.quietClosePending = false →
      v.timerAfterPlacement c = loaded) ∧
    (0 < v.quietReload → v.timer.running = true →
      v.timerAfterPlacement .lead = loaded ∧ v.timerAfterPlacement .background = v.timer) ∧
    (0 < v.quietReload → v.timer.running = false → v.timer.lapsed = true → v.quietClosePending = false →
      v.timerAfterPlacement .lead = loaded ∧ v.timerAfterPlacement .background = v.timer) ∧
    (v.timer.running = false → v.quietClosePending = true → v.timerAfterPlacement c = v.timer)

/-- QUIET_TIMER_EXPIRY of a RUNNING timer of an ARMED window whose remaining count is 0 (R91, R96): with auto-close off,
QUIET_EXPIRED (R96); with auto-close on and a CLOSING entry, quiet-close pending (R97); with auto-close on, no CLOSING entry
and no number left, QUIET_EXPIRED with the exhausted indication (R99); otherwise the close of R11 with cause QUIET (R97),
spelled out where the list has room and no slot is pending. While the remaining count is above 0, as after a reload by a LEAD
placement (R100), or with the timer STOPPED, there is no expiry: the command changes nothing (log 6). -/
def Obligations.AnExpiryClosesOrReports : Prop :=
  (∀ (w : WindowIdx) (s : State), (s.window w).timer.running = false ∨ 0 < (s.window w).timer.remaining →
    exec (.quietTimerExpiry w) s = .next s) ∧
  ∀ (w : WindowIdx) (s : State), s.por = false → (s.window w).state = .armed → (s.window w).timer.running = true →
    (s.window w).timer.remaining = 0 →
    ((s.window w).autoClose = false → exec (.quietTimerExpiry w) s =
      .next (emit { kind := .quietExpired, window := some w, generation := some (s.window w).openNumber,
                    exhausted := some false }
        (s.setWindow w { s.window w with
          timer := { running := false, remaining := 0, lapsed := true, elapsed := 0 } }))) ∧
    ((s.window w).autoClose = true → (∃ e ∈ (s.window w).gens, e.state = .closing) → exec (.quietTimerExpiry w) s =
      .next (s.setWindow w { s.window w with
        timer := { running := false, remaining := 0, lapsed := false, elapsed := 0 }, quietClosePending := true })) ∧
    ((s.window w).autoClose = true → (∀ e ∈ (s.window w).gens, e.state ≠ .closing) →
      4294967295 ≤ (s.window w).lastGen → exec (.quietTimerExpiry w) s =
      .next (emit { kind := .quietExpired, window := some w, generation := some (s.window w).openNumber,
                    exhausted := some true }
        (s.setWindow w { s.window w with
          timer := { running := false, remaining := 0, lapsed := true, elapsed := 0 }, quietClosePending := false }))) ∧
    ((s.window w).autoClose = true → (∀ e ∈ (s.window w).gens, e.state ≠ .closing) → (s.window w).lastGen < 4294967295 →
      exec (.quietTimerExpiry w) s = .next (closeGeneration w .quiet s)) ∧
    (∀ older e, (s.window w).autoClose = true → (s.window w).gens = older ++ [e] → e.state = .opened →
      (∀ o ∈ older, o.state = .closed) → e.slotsPending = 0 → (s.window w).lastGen < 4294967295 →
      older.length + 2 ≤ (s.window w).depth → exec (.quietTimerExpiry w) s =
      .next (emit { kind := .genClosed, window := some w, generation := some e.number, cause := some (.close .quiet) }
        (s.setWindow w { s.window w with
          gens := older ++ [{ e with state := .closed, closeCause := some .quiet },
            { number := (s.window w).lastGen + 1, state := .opened, firstSeq := none, recordCount := 0,
              slotsPending := 0, closeCause := none }]
          lastGen := (s.window w).lastGen + 1
          quietClosePending := false
          timer := { running := false, remaining := 0, lapsed := false, elapsed := 0 } })))

/-! ### The memory port -/

/-- ARBITER_GRANT (R129, R133, R134): with a FREE entry and none PRESENTED, the next ready source after the one granted last,
in the cycle FORWARD, CAPTURE, REWIND, gives its oldest request to the lowest-numbered FREE entry. Otherwise nothing changes
(log 3). MEMORY_REQUEST_ISSUE (R134, R137): the PRESENTED entry becomes WAITING with the timeout in force. -/
def Obligations.TheArbiterGrantsAndTheControllerAccepts : Prop :=
  ((∀ (k : Ticket) (m : MemRequest) (q : List MemRequest) (s t : State), s.por = false →
     (∀ u e, s.entry u = some e → e.state ≠ .presented) → s.entry k = none → (∀ j, j < k → s.entry j ≠ none) →
     t = s.setEntry k (some { state := .presented, request := m, orphaned := false, timeLeft := 0 }) →
     (s.forwardQ = m :: q → (s.lastSource = .rewind ∨ (s.lastSource = .capture ∧ s.rewindOffer = none) ∨
         (s.captureQ = [] ∧ s.rewindOffer = none)) →
       exec .arbiterGrant s = .next { t with forwardQ := q, lastSource := .forward }) ∧
     (s.captureQ = m :: q → (s.lastSource = .forward ∨ (s.lastSource = .rewind ∧ s.forwardQ = []) ∨
         (s.forwardQ = [] ∧ s.rewindOffer = none)) →
       exec .arbiterGrant s = .next { t with captureQ := q, lastSource := .capture }) ∧
     (s.rewindOffer = some m → (s.lastSource = .capture ∨ (s.lastSource = .forward ∧ s.captureQ = []) ∨
         (s.forwardQ = [] ∧ s.captureQ = [])) →
       exec .arbiterGrant s = .next { t with rewindOffer := none, lastSource := .rewind })) ∧
   (∀ s : State, (∃ u e, s.entry u = some e ∧ e.state = .presented) ∨ (∀ u, s.entry u ≠ none) ∨
       (s.forwardQ = [] ∧ s.captureQ = [] ∧ s.rewindOffer = none) →
     exec .arbiterGrant s = .next s)) ∧
  (∀ (k : Ticket) (e : OutEntry) (s : State), s.por = false → OnePresented s → s.entry k = some e →
     e.state = .presented →
     memoryRequestOut s = some (k, e.request.op, e.request.line) ∧
     exec .memoryRequestIssue s = .next (s.setEntry k (some { e with state := .waiting, timeLeft := s.timeout.toNat })))

/-! ### The capture filter -/

/-- The capture filter (R23 to R27). A lookup of a window and a line hits when the set of the line, its number modulo 2048,
holds an entry that names both, the window is ARMED and the entry's generation is the window's OPEN one. A completed CAPTURE
record inserts an entry exactly when its window is ARMED and its generation the OPEN one, and the line is a hit from then on;
otherwise the filter is unchanged. The entry becomes the one inserted last in its set, in one way: that of an entry for the
same window and line; else the lowest empty way; else that of the stale entry inserted longest ago; else that of the entry
inserted longest ago. The other entries keep their ways and their order, and the other sets are unchanged. -/
def Obligations.TheFilterHitsAndLearns : Prop :=
  let isOpen (s : State) (w : WindowIdx) (g : Nat) : Prop :=
    (s.window w).state = .armed ∧ ∃ e, (s.window w).openEntry = some e ∧ e.number = g
  (∀ (w : WindowIdx) (l : Line) (s : State), filterHit s w l = true ↔
    ∃ e ∈ filterGet s.filter (l.toNat % 2048), e.window = w ∧ e.line = l ∧ isOpen s w e.generation) ∧
  (∀ (w : WindowIdx) (g : Nat) (l : Line) (s : State), ¬isOpen s w g → filterInsert w g l s = s) ∧
  (∀ (w : WindowIdx) (g : Nat) (l : Line) (s t : State) (set : FilterSet), FilterOk s → isOpen s w g →
    set = filterGet s.filter (l.toNat % 2048) → t = filterInsert w g l s →
    t = { s with filter := t.filter } ∧ filterHit t w l = true ∧
    (∀ i, i ≠ l.toNat % 2048 → filterGet t.filter i = filterGet s.filter i) ∧
    ∃ way : Fin 4, filterGet t.filter (l.toNat % 2048) =
        set.filter (fun e => e.way != way) ++ [{ way := way, window := w, generation := g, line := l }] ∧
      (∀ e ∈ set, e.window = w → e.line = l → way = e.way) ∧
      ((∀ e ∈ set, ¬(e.window = w ∧ e.line = l)) →
        (∀ i, (∀ e ∈ set, e.way ≠ i) → (∀ e ∈ set, e.way ≠ way) ∧ way ≤ i) ∧
        ((∀ i, ∃ e ∈ set, e.way = i) →
          (∀ older e newer, set = older ++ e :: newer → ¬isOpen s e.window e.generation →
            (∀ o ∈ older, isOpen s o.window o.generation) → way = e.way) ∧
          (∀ e newer, set = e :: newer → (∀ o ∈ set, isOpen s o.window o.generation) → way = e.way))))

/-! ### Responses and timeouts -/

/-- A response whose ticket names a FREE or a PRESENTED entry is discarded (R136). A late response (R139): its status and data
are discarded, the end of a hold is reported, the entry becomes FREE; nothing is handed to the owner. The response of an
orphaned trigger, late or not, frees the slot that still carries it, and answers nobody (R43, R140). -/
def Obligations.StrayAndLateResponsesHandNothingOver : Prop :=
  (∀ (k : Ticket) (status : MemStatus) (data : LineData) (s : State),
    s.entry k = none ∨ (∃ e, s.entry k = some e ∧ e.state = .presented) →
    exec (.memoryResponse k status data) s = .next s) ∧
  ∀ (k : Ticket) (status : MemStatus) (data : LineData) (e : OutEntry) (s : State), s.por = false →
    s.entry k = some e →
    (e.state = .late → e.orphaned = false ∨ (∀ j, e.request.owner ≠ .trigger j) →
      exec (.memoryResponse k status data) s = .next
        (if e.request.owner.holdsLine = true ∧ lineHeld (s.setEntry k none) e.request.line = false then
          raiseTrigger (s.setEntry k none)
         else s.setEntry k none)) ∧
    (∀ j sl, e.state = .late ∨ e.state = .waiting → e.orphaned = true → e.request.owner = .trigger j →
      s.slot j = some sl → sl.phase = .forwarding → sl.line = e.request.line →
      exec (.memoryResponse k status data) s =
        .next (reportHoldEnd e.request.line (freeSlotAt j (s.setEntry k none))))

/-- The response to a forwarded request (R116, R135, R191): the requester is answered DONE, with the line's bytes for a READ,
or FAULT; the entry becomes FREE and the end of the hold is reported. An orphaned one answers nobody (R140). -/
def Obligations.AForwardedRequestIsAnswered : Prop :=
  ∀ (k : Ticket) (q : Requester) (g : Tag) (line : Line) (op : MemOp) (n : Nat) (status : MemStatus) (data : LineData)
    (orphaned : Bool) (s : State), s.por = false →
    s.entry k = some { state := .waiting, request := { owner := .request q g, line := line, op := op },
                       orphaned := orphaned, timeLeft := n } →
    ((q, g) ∈ s.admitted → orphaned = false → exec (.memoryResponse k status data) s =
      .next (reportHoldEnd line { s.setEntry k none with
        admitted := s.admitted.erase (q, g)
        responses := s.responses ++ [{
          requester := q, tag := g,
          status := if status = .ok then .done else .fault,
          data := if status = .ok ∧ op = .read then some data else none }] })) ∧
    (orphaned = true → exec (.memoryResponse k status data) s = .next (reportHoldEnd line (s.setEntry k none)))

/-- A capture read is answered. OK, in a window that is not FAULTED: the slot is RECORDING and the two record lines of R36
are in the capture queue, in either order (a free value, R131, log 1). ERROR, in a window that is not FAULTED: the trigger is
answered FAULT unless dropped, CAPTURE_READ_ERROR is produced, the VOID header is in the capture queue and the slot is
VOIDING (R35). In a FAULTED window the slot is freed instead (R34, R35). The window's state is the one at the answer, also for
a window that was FAULTED and is DISARMING by then, which is the model's choice (log 21). -/
def Obligations.ACaptureReadIsAnswered : Prop :=
  ∀ (tk : Ticket) (k : SlotIdx) (sl : Slot) (line : Line) (n : Nat) (data : LineData) (s s0 : State), s.por = false →
    s.entry tk = some { state := .waiting, request := { owner := .capture k .captureRead, line := line, op := .read },
                        orphaned := false, timeLeft := n } →
    s.slot k = some sl → s0 = s.setEntry tk none →
    ((s.window sl.window).state ≠ .faulted → ∃ queued : List MemRequest,
      exec (.memoryResponse tk .ok data) s = .next (reportHoldEnd line
        { s0.setSlot k (some { sl with phase := .recording }) with
          captureQ := s.captureQ ++ queued, freeCount := s.freeCount + 1 }) ∧
      queued.Perm
        [{ owner := .capture k .headerWrite, line := (s.window sl.window).headerLine sl.position,
           op := .write (captureHeader sl data) allEnables },
         { owner := .capture k .dataWrite, line := (s.window sl.window).dataLine sl.position,
           op := .write data allEnables }]) ∧
    ((s.window sl.window).state ≠ .faulted → exec (.memoryResponse tk .error data) s = .next (reportHoldEnd line
      { (emit { kind := .captureReadError, window := some sl.window, generation := some sl.generation,
                line := some sl.line, requester := some sl.trigger.requester, sequence := some sl.sequence }
          (if sl.dropped then s0 else answer sl.trigger.requester sl.trigger.tag .fault none s0)).setSlot k
          (some { sl with phase := .voiding, dropped := true }) with
        captureQ := s.captureQ ++ [{
          owner := .capture k .voidWrite,
          line := (s.window sl.window).headerLine sl.position, op := .write (voidHeader sl) allEnables }] })) ∧
    ((s.window sl.window).state = .faulted →
      exec (.memoryResponse tk .ok data) s = .next (reportHoldEnd line (freeSlotAt k s0)) ∧
      exec (.memoryResponse tk .error data) s = .next (reportHoldEnd line (freeSlotAt k
        (emit { kind := .captureReadError, window := some sl.window, generation := some sl.generation,
                line := some sl.line, requester := some sl.trigger.requester, sequence := some sl.sequence }
          (if sl.dropped then s0
           else answer sl.trigger.requester sl.trigger.tag .fault none
             (s0.setSlot k (some { sl with dropped := true })))))))

/-- A record write of a slot is answered (R37, R38). The last of the two, OK after an OK: the insertion rule, then the
trigger enters the forward queue and the slot is FORWARDING, or, with the trigger dropped, the slot is freed. The last of the
two after an ERROR, or itself ERROR: the slot is freed with no insertion. The first of the two is noted. An ERROR refuses the
trigger unless it was dropped and reports RING_WRITE_ERROR, before the slot is freed. The VOID header write of a slot, or the
trigger of a FORWARDING slot, is answered (R39, R40): the slot is freed; a VOID write answered ERROR reports RING_WRITE_ERROR
first; a trigger's requester is answered DONE or FAULT with no data. -/
def Obligations.TheEndsOfACapture : Prop :=
  ∀ (tk : Ticket) (k : SlotIdx) (sl noted : Slot) (req : MemRequest) (n : Nat) (data : LineData) (s s0 : State),
    s.por = false → s.entry tk = some { state := .waiting, request := req, orphaned := false, timeLeft := n } →
    s.slot k = some sl → s0 = s.setEntry tk none →
    ((req.owner = .capture k .headerWrite ∧ noted = { sl with headerAnswered := true }) ∨
      (req.owner = .capture k .dataWrite ∧ noted = { sl with dataAnswered := true }) →
      (noted.headerAnswered = true ∧ noted.dataAnswered = true →
        (sl.writeFailed = false → sl.dropped = false → exec (.memoryResponse tk .ok data) s = .next
          { (filterInsert sl.window sl.generation sl.line s0).setSlot k (some { noted with phase := .forwarding }) with
            forwardQ := s.forwardQ ++ [{
              owner := .trigger k, line := sl.line,
              op := .write sl.trigger.data sl.trigger.enables }] }) ∧
        (sl.writeFailed = false → sl.dropped = true → exec (.memoryResponse tk .ok data) s = .next
          (freeSlotAt k (filterInsert sl.window sl.generation sl.line (s0.setSlot k (some noted))))) ∧
        (sl.writeFailed = true → exec (.memoryResponse tk .ok data) s = .next (freeSlotAt k (s0.setSlot k (some noted)))) ∧
        (sl.dropped = true → exec (.memoryResponse tk .error data) s = .next
          (freeSlotAt k (reportFailure sl.window .ringWriteError (some sl.sequence) (some sl.line)
            (s0.setSlot k (some { noted with writeFailed := true }))))) ∧
        (sl.dropped = false → exec (.memoryResponse tk .error data) s = .next
          (freeSlotAt k (reportFailure sl.window .ringWriteError (some sl.sequence) (some sl.line)
            (answer sl.trigger.requester sl.trigger.tag .fault none
              (s0.setSlot k (some { noted with writeFailed := true, dropped := true }))))))) ∧
      (noted.headerAnswered = false ∨ noted.dataAnswered = false →
        exec (.memoryResponse tk .ok data) s = .next (s0.setSlot k (some noted)) ∧
        (sl.dropped = true → exec (.memoryResponse tk .error data) s = .next
          (reportFailure sl.window .ringWriteError (some sl.sequence) (some sl.line)
            (s0.setSlot k (some { noted with writeFailed := true })))) ∧
        (sl.dropped = false → exec (.memoryResponse tk .error data) s = .next
          (reportFailure sl.window .ringWriteError (some sl.sequence) (some sl.line)
            (answer sl.trigger.requester sl.trigger.tag .fault none
              (s0.setSlot k (some { noted with writeFailed := true, dropped := true }))))))) ∧
    (req.owner = .capture k .voidWrite →
      exec (.memoryResponse tk .ok data) s = .next (freeSlotAt k s0) ∧
      exec (.memoryResponse tk .error data) s = .next (freeSlotAt k
        (reportFailure sl.window .ringWriteError (some sl.sequence) (some sl.line) s0))) ∧
    (req.owner = .trigger k →
      exec (.memoryResponse tk .ok data) s = .next (reportHoldEnd req.line
        (freeSlotAt k (answer sl.trigger.requester sl.trigger.tag .done none s0))) ∧
      exec (.memoryResponse tk .error data) s = .next (reportHoldEnd req.line
        (freeSlotAt k (answer sl.trigger.requester sl.trigger.tag .fault none s0))))

/-- A slot is freed (R13, R31, R41). A slot that is not its CLOSING generation's last pending one only takes one from slots
pending. The last of a CLOSING one makes it CLOSED with GEN_CLOSED. In a FAULTED window that is all. In an ARMED or REWINDING
one the depth rule follows (R14): nothing is released from a list within its depth, and an oldest entry that stands one above
the depth is released with GEN_RELEASED. In an ARMED window a pending quiet close is then due (R98): it closes the OPEN
generation with cause QUIET, spelled out where the list has room and no slot is pending, or, with no number left, it is
skipped with QUIET_EXPIRED (R99). Every freeing is a trigger for re-examination. The last slot of a DISARMING window completes
the disarm. -/
def Obligations.AFreedSlotReportsToItsWindow : Prop :=
  ∀ (k : SlotIdx) (sl : Slot) (w : WindowIdx) (m : GenEntry) (before after : List GenEntry) (s : State),
    s.slot k = some sl → sl.window = w → sl.generation = m.number → (s.window w).gens = before ++ m :: after →
    (∀ e ∈ before ++ after, e.number ≠ m.number) →
    (¬(m.state = .closing ∧ m.slotsPending ≤ 1) → (s.window w).state ≠ .disarming →
      freeSlotAt k s = raiseTrigger ((s.setSlot k none).setWindow w { s.window w with
        gens := before ++ { m with slotsPending := m.slotsPending - 1 } :: after })) ∧
    (∀ (closedEvent : EventBody) (t : State), m.state = .closing → m.slotsPending = 1 →
      closedEvent = { kind := .genClosed, window := some w, generation := some m.number,
                      cause := m.closeCause.map Cause.close } →
      t = emit closedEvent ((s.setSlot k none).setWindow w { s.window w with
        gens := before ++ { m with slotsPending := 0, state := .closed } :: after }) →
      ((s.window w).state = .faulted → freeSlotAt k s = raiseTrigger t) ∧
      ((s.window w).state = .rewinding ∨ ((s.window w).state = .armed ∧ (s.window w).quietClosePending = false) →
        (before.length + 1 + after.length ≤ (s.window w).depth → freeSlotAt k s = raiseTrigger t) ∧
        (before = [] → after.length = (s.window w).depth → ∃ released,
          freeSlotAt k s = raiseTrigger
            (emit { kind := .genReleased, window := some w, generation := some m.number,
                    cause := some (.release .depth) }
              (emit closedEvent ((s.setSlot k none).setWindow w { s.window w with gens := after, ring := released }))) ∧
          (m.recordCount = 0 → released = (s.window w).ring) ∧
          (0 < m.recordCount → released = { (s.window w).ring with
            tail := ((s.window w).ring.tail + m.recordCount) % (s.window w).capacity
            occupancy := (s.window w).ring.occupancy - m.recordCount
            full := (s.window w).ring.full &&
              !decide ((s.window w).ring.occupancy - m.recordCount < (s.window w).capacity)
            high := (s.window w).ring.high &&
              !decide ((s.window w).ring.occupancy - m.recordCount < (s.window w).highThreshold) }))) ∧
      ((s.window w).state = .armed → (s.window w).quietClosePending = true →
        before.length + 1 + after.length ≤ (s.window w).depth →
        ((s.window w).lastGen < 4294967295 → freeSlotAt k s = raiseTrigger (closeGeneration w .quiet
          (t.setWindow w { t.window w with quietClosePending := false }))) ∧
        (∀ o, after = [o] → o.state = .opened → (∀ e ∈ before, e.state = .closed) → o.slotsPending = 0 →
          (s.window w).lastGen < 4294967295 → before.length + 3 ≤ (s.window w).depth →
          freeSlotAt k s = raiseTrigger
            (emit { kind := .genClosed, window := some w, generation := some o.number, cause := some (.close .quiet) }
              (t.setWindow w { s.window w with
                gens := before ++ [{ m with slotsPending := 0, state := .closed },
                  { o with state := .closed, closeCause := some .quiet },
                  { number := (s.window w).lastGen + 1, state := .opened, firstSeq := none, recordCount := 0,
                    slotsPending := 0, closeCause := none }]
                lastGen := (s.window w).lastGen + 1
                quietClosePending := false
                timer := { running := false, remaining := 0, lapsed := false, elapsed := 0 } }))) ∧
        (∀ o, after = [o] → o.state = .opened → (∀ e ∈ before, e.state = .closed) →
          4294967295 ≤ (s.window w).lastGen → freeSlotAt k s = raiseTrigger
            (emit { kind := .quietExpired, window := some w, generation := some o.number, exhausted := some true }
              (t.setWindow w { t.window w with
                quietClosePending := false
                timer := { running := false, remaining := 0, lapsed := true, elapsed := 0 } }))))) ∧
    ((s.window w).state = .disarming → (∀ j sl', j ≠ k → s.slot j = some sl' → sl'.window ≠ w) →
      ((freeSlotAt k s).window w).state = .defined ∧ ((freeSlotAt k s).window w).gens = [] ∧
      ((freeSlotAt k s).window w).rewind = none ∧ ((freeSlotAt k s).window w).fault = none ∧
      ((freeSlotAt k s).window w).lastGen = (s.window w).lastGen ∧
      ((freeSlotAt k s).window w).binding = (s.window w).binding ∧
      ((freeSlotAt k s).window w).ring = { tail := 0, head := 0, occupancy := 0, nextSeq := 0, full := false, high := false })

/-- Fault entry (R20, R21, R22, R42): an ARMED or REWINDING window becomes FAULTED with the fault record of the failure, its
timer stops, the triggers of its READING and RECORDING slots are answered FAULT and dropped (in which order is the model's
choice, log 22, and nothing is said of it here), and WINDOW_FAULTED is produced;
in every other state the report changes nothing. -/
def Obligations.AFailureFaultsTheWindowOnce : Prop :=
  (∀ (w : WindowIdx) (cause : FaultCause) (q : Option Seq) (l : Option Line) (s t : State),
    (s.window w).state = .armed ∨ (s.window w).state = .rewinding → t = reportFailure w cause q l s →
    t.window w = { s.window w with
      state := .faulted, fault := some { cause := cause, sequence := q, line := l }, quietClosePending := false
      timer := { running := false, remaining := 0, lapsed := false, elapsed := 0 } } ∧
    (∀ u, u ≠ w → t.window u = s.window u) ∧
    (∀ k, t.slot k = (s.slot k).map (fun sl =>
      if sl.window = w ∧ (sl.phase = .reading ∨ sl.phase = .recording) then { sl with dropped := true } else sl)) ∧
    (∀ k sl, s.slot k = some sl → sl.window = w → sl.phase = .reading ∨ sl.phase = .recording → sl.dropped = false →
      (sl.trigger.requester, sl.trigger.tag) ∈ s.admitted →
      { requester := sl.trigger.requester, tag := sl.trigger.tag, status := .fault, data := none } ∈ t.responses) ∧
    t.serial = s.serial + 1 ∧
    (s.events.length < 64 → t.events = s.events ++ [{ serial := s.serial, body :=
      { kind := .windowFaulted, window := some w, cause := some (.fault cause), sequence := q, line := l } }]) ∧
    t.forwardQ = s.forwardQ ∧ t.captureQ = s.captureQ ∧ t.table = s.table ∧ t.filter = s.filter ∧ t.park = s.park) ∧
  (∀ (w : WindowIdx) (cause : FaultCause) (q : Option Seq) (l : Option Line) (s : State),
    (s.window w).state ≠ .armed → (s.window w).state ≠ .rewinding → reportFailure w cause q l s = s)

/-- The walk on OK answers (R73, R75, R76, R77), with no pause requested. A CAPTURE header asks for the data read; a data
line whose check is right asks for the restore write of the line the header names; a restore write that is not the last moves
to the position before, one sequence number down. Each next operation is offered when the REWIND source turns (R74). -/
def Obligations.TheWalkRestoresRecordByRecord : Prop :=
  ∀ (tk : Ticket) (w : WindowIdx) (req : MemRequest) (n : Nat) (data : LineData) (c : RewindContext) (f : StopFields)
    (r : RecordInHand) (s s0 : State), s.por = false →
    s.entry tk = some { state := .waiting, request := req, orphaned := false, timeLeft := n } → s0 = s.setEntry tk none →
    (s.window w).state = .rewinding → (s.window w).rewind = some c → c.stop = some f → c.inHand = some r →
    (req.owner = .rewind w .headerRead → acceptHeader w r.sequence data = some .capture →
      exec (.memoryResponse tk .ok data) s = .next (grantRewindSource (s0.setWindow w { s.window w with
        rewind := some { c with inHand := some { r with
          kind := some .capture, stage := .data, ready := true, headerLine := data } } }))) ∧
    (req.owner = .rewind w .dataRead → addressValid (s.window w) r.headerLine = true →
      captureCheckValid r.headerLine data = true →
      exec (.memoryResponse tk .ok data) s = .next (grantRewindSource (s0.setWindow w { s.window w with
        rewind := some { c with inHand := some { r with stage := .restore, ready := true, dataLine := data } } }))) ∧
    (req.owner = .rewind w .restoreWrite → c.pauseRequested = false → r.redo = false → 1 < f.remaining →
      exec (.memoryResponse tk .ok data) s = .next (reportHoldEnd req.line (grantRewindSource (s0.setWindow w
        { s.window w with
          rewind := some { c with
            restored := c.restored + 1
            stop := some { f with
              remaining := f.remaining - 1
              nextPosition := if f.nextPosition = 0 then (s.window w).capacity - 1 else f.nextPosition - 1
              nextSequence := f.nextSequence - 1 }
            inHand := some { position := if f.nextPosition = 0 then (s.window w).capacity - 1 else f.nextPosition - 1,
                             sequence := f.nextSequence - 1, kind := none, stage := .header, redo := false,
                             ready := true, headerLine := 0, dataLine := 0 } } })))) ∧
    (req.owner = .rewind w .headerRead → acceptHeader w r.sequence data = none →
      exec (.memoryResponse tk .ok data) s =
        .next (grantRewindSource (reportFailure w .recordBad (some r.sequence) none s0))) ∧
    (req.owner = .rewind w .restoreWrite → exec (.memoryResponse tk .error data) s =
      .next (reportHoldEnd req.line (grantRewindSource (reportFailure w .restoreWriteError (some r.sequence)
        (some (recordedLine r.headerLine)) s0))))

/-- The walk on records that restore nothing, and where it stops (R73, R75, R76, R77, R82, R83, R86). A VOID record whose
check is right is skipped, and the walk moves to the position before; a wrong check, a header or a line address that the
tests of R64 refuse is RECORD_BAD; a read answered ERROR is RING_READ_ERROR. With a pause requested, the walk stops after the
record in hand when records remain: the window is PAUSED. -/
def Obligations.TheWalkSkipsPausesAndFails : Prop :=
  ∀ (tk : Ticket) (w : WindowIdx) (req : MemRequest) (n : Nat) (data : LineData) (c : RewindContext) (f : StopFields)
    (r : RecordInHand) (s s0 : State), s.por = false →
    s.entry tk = some { state := .waiting, request := req, orphaned := false, timeLeft := n } → s0 = s.setEntry tk none →
    (s.window w).state = .rewinding → (s.window w).rewind = some c → c.stop = some f → c.inHand = some r →
    (req.owner = .rewind w .headerRead → acceptHeader w r.sequence data = some .void → voidCheckValid data = true →
      c.pauseRequested = false → r.redo = false → 1 < f.remaining →
      exec (.memoryResponse tk .ok data) s = .next (grantRewindSource (s0.setWindow w { s.window w with
        rewind := some { c with
          skipped := c.skipped + 1
          stop := some { f with
            remaining := f.remaining - 1
            nextPosition := if f.nextPosition = 0 then (s.window w).capacity - 1 else f.nextPosition - 1
            nextSequence := f.nextSequence - 1 }
          inHand := some { position := if f.nextPosition = 0 then (s.window w).capacity - 1 else f.nextPosition - 1,
                           sequence := f.nextSequence - 1, kind := none, stage := .header, redo := false,
                           ready := true, headerLine := 0, dataLine := 0 } } }))) ∧
    (req.owner = .rewind w .headerRead → acceptHeader w r.sequence data = some .void → voidCheckValid data = false →
      exec (.memoryResponse tk .ok data) s =
        .next (grantRewindSource (reportFailure w .recordBad (some r.sequence) none s0))) ∧
    (req.owner = .rewind w .dataRead →
      addressValid (s.window w) r.headerLine = false ∨ captureCheckValid r.headerLine data = false →
      exec (.memoryResponse tk .ok data) s =
        .next (grantRewindSource (reportFailure w .recordBad (some r.sequence) none s0))) ∧
    (req.owner = .rewind w .headerRead ∨ req.owner = .rewind w .dataRead → exec (.memoryResponse tk .error data) s =
      .next (grantRewindSource (reportFailure w .ringReadError (some r.sequence) none s0))) ∧
    (req.owner = .rewind w .restoreWrite → c.pauseRequested = true → r.redo = false → 1 < f.remaining →
      exec (.memoryResponse tk .ok data) s = .next (reportHoldEnd req.line (grantRewindSource (raiseTrigger
        (emit { kind := .rewindPaused, window := some w, generation := some c.target, restored := some (c.restored + 1),
                skipped := some c.skipped, remaining := some (f.remaining - 1) }
          (s0.setWindow w { s.window w with
            state := .paused
            rewind := some { c with
              restored := c.restored + 1, pauseRequested := false
              stop := some { f with remaining := f.remaining - 1 }
              inHand := some { r with stage := .finished, ready := false } } })))))) ∧
    (req.owner = .rewind w .restoreWrite → c.pauseRequested = false → r.redo = true → 0 < f.remaining →
      exec (.memoryResponse tk .ok data) s = .next (reportHoldEnd req.line (grantRewindSource (s0.setWindow w
        { s.window w with
          rewind := some { c with
            stop := some { f with
              nextPosition := if f.nextPosition = 0 then (s.window w).capacity - 1 else f.nextPosition - 1
              nextSequence := f.nextSequence - 1 }
            inHand := some { position := if f.nextPosition = 0 then (s.window w).capacity - 1 else f.nextPosition - 1,
                             sequence := f.nextSequence - 1, kind := none, stage := .header, redo := false,
                             ready := true, headerLine := 0, dataLine := 0 } } }))))

/-- Completion of a rewind (R61, R79, R80), by the restore write of the last record of a window whose list is within its
depth: the ring is cut back to the stop position and sequence, the target and newer entries give way to a fresh OPEN entry,
the window is ARMED without a context, and REWIND_DONE is produced. -/
def Obligations.TheLastRestoreCompletesTheRewind : Prop :=
  ∀ (tk : Ticket) (w : WindowIdx) (req : MemRequest) (n : Nat) (data : LineData) (c : RewindContext) (f : StopFields)
    (r : RecordInHand) (older : List GenEntry) (m : GenEntry) (newer : List GenEntry) (s : State), s.por = false →
    s.entry tk = some { state := .waiting, request := req, orphaned := false, timeLeft := n } →
    req.owner = .rewind w .restoreWrite → (s.window w).state = .rewinding → (s.window w).rewind = some c →
    c.stop = some f → c.inHand = some r → r.redo = false → f.remaining = 1 →
    (s.window w).gens = older ++ m :: newer → m.number = c.target → (∀ e ∈ older, e.number ≠ c.target) →
    older.length + 1 ≤ (s.window w).depth → 0 < recordSum (m :: newer) →
    ∃ t, exec (.memoryResponse tk .ok data) s = .next t ∧
      (t.window w).state = .armed ∧ (t.window w).rewind = none ∧ (t.window w).lastGen = (s.window w).lastGen + 1 ∧
      (t.window w).gens = older ++ [{
        number := (s.window w).lastGen + 1, state := .opened, firstSeq := none,
        recordCount := 0, slotsPending := 0, closeCause := none }] ∧
      (t.window w).ring.head = f.stopPosition ∧ (t.window w).ring.nextSeq = f.stopSequence ∧
      (t.window w).ring.tail = (s.window w).ring.tail ∧
      (t.window w).ring.occupancy = (s.window w).ring.occupancy - recordSum (m :: newer) ∧
      (∀ u, u ≠ w → (t.window u).gens = (s.window u).gens ∧ (t.window u).ring = (s.window u).ring) ∧
      (s.events.length < 64 → t.events = s.events ++ [{ serial := s.serial, body :=
        { kind := .rewindDone, window := some w, generation := some ((s.window w).lastGen + 1), target := some c.target,
          targetMoved := some c.targetMoved, restored := some (c.restored + 1), skipped := some c.skipped } }])

/-- RESPONSE_TIMEOUT of a WAITING entry with no time left (R138, R140): it becomes LATE, MEMORY_TIMEOUT is produced first, and
the owner sees ERROR: the requester of a forwarded request is answered FAULT, a capture read goes on to its VOID record after
CAPTURE_READ_ERROR, a header read of a walk reports RING_READ_ERROR. An orphaned entry hands nothing over. No entry becomes
FREE. With time left, or for an entry that is not WAITING, there is no timeout: the command changes nothing (log 6). -/
def Obligations.ATimeoutHandsAnErrorToTheOwner : Prop :=
  (∀ (k : Ticket) (s : State), (∀ e, s.entry k = some e → e.state ≠ .waiting ∨ 0 < e.timeLeft) →
    exec (.responseTimeout k) s = .next s) ∧
  ∀ (k : Ticket) (e : OutEntry) (s : State), s.por = false → s.entry k = some e → e.state = .waiting → e.timeLeft = 0 →
    (e.orphaned = false → exec (.responseTimeout k) s = .next (handToOwner e.request .error 0
      (emit (timeoutEvent s e.request) (s.setEntry k (some { e with state := .late, timeLeft := 0 }))))) ∧
    (e.orphaned = true → exec (.responseTimeout k) s = .next
      (emit (timeoutEvent s e.request) (s.setEntry k (some { e with state := .late, timeLeft := 0 })))) ∧
    (∀ q g, e.request.owner = .request q g → e.orphaned = false → (q, g) ∈ s.admitted →
      exec (.responseTimeout k) s = .next { emit {
          kind := .memoryTimeout, requester := some q,
          line := some e.request.line, source := some .forward }
          (s.setEntry k (some { e with state := .late, timeLeft := 0 })) with
        admitted := s.admitted.erase (q, g)
        responses := s.responses ++ [{ requester := q, tag := g, status := .fault, data := none }] }) ∧
    (∀ j sl, e.request.owner = .capture j .captureRead → e.orphaned = false → s.slot j = some sl →
      exec (.responseTimeout k) s = .next (captureReadFailed j sl
        (emit { kind := .memoryTimeout, window := some sl.window, line := some e.request.line, source := some .capture }
          (s.setEntry k (some { e with state := .late, timeLeft := 0 }))))) ∧
    (∀ w c r, e.request.owner = .rewind w .headerRead → e.orphaned = false → (s.window w).state = .rewinding →
      (s.window w).rewind = some c → c.inHand = some r →
      exec (.responseTimeout k) s = .next (grantRewindSource
        (reportFailure w .ringReadError (some r.sequence) none
          (emit { kind := .memoryTimeout, window := some w, line := some e.request.line, source := some .rewind }
            (s.setEntry k (some { e with state := .late, timeLeft := 0 }))))))

/-- DRAIN_END (R71) of a REWINDING window in phase DRAIN with an empty drain set: a target that the list no longer holds
gives way to the oldest entry; the stop fields are fixed (R54); a requested pause takes effect; else the rewind completes
when it has no record to take, and the walk takes its first record at the position before the head when it has. With a drain
set that is not empty, or in another state, the command changes nothing (log 3). The drain set (R69, R70) is empty exactly when
no request of a line of the window's range, forwarded or a trigger, is in the forward queue; no slot names the window; and no
entry of the outstanding table, PRESENTED, WAITING or LATE, holds such a request, a capture read of such a line, or a restore
write of such a line of a rewind of this window. -/
def Obligations.TheEndOfTheDrainStartsTheWalk : Prop :=
  (∀ (w : WindowIdx) (c0 c : RewindContext) (older : List GenEntry) (m : GenEntry) (newer : List GenEntry) (f : StopFields)
      (s : State), s.por = false → (s.window w).state = .rewinding → (s.window w).rewind = some c0 → c0.phase = .drain →
    drainEmpty s w = true → (s.window w).gens = older ++ m :: newer → m.number = c.target →
    (∀ e ∈ older, e.number ≠ c.target) →
    (c = c0 ∨ (older = [] ∧ (∀ e ∈ m :: newer, e.number ≠ c0.target) ∧
      c = { c0 with target := m.number, targetMoved := true })) →
    f.stopPosition = ((s.window w).ring.tail + recordSum older) % (s.window w).capacity →
    f.stopSequence = (s.window w).ring.nextSeq - BitVec.ofNat 32 (s.window w).ring.occupancy +
      BitVec.ofNat 32 (recordSum older) →
    f.remaining = recordSum (m :: newer) →
    (0 < f.remaining → f.nextSequence = (s.window w).ring.nextSeq - 1 ∧
      f.nextPosition = if (s.window w).ring.head = 0 then (s.window w).capacity - 1 else (s.window w).ring.head - 1) →
    (f.remaining = 0 → f.nextPosition = f.stopPosition ∧ f.nextSequence = f.stopSequence) →
    (c.pauseRequested = false → f.remaining = 0 → exec (.drainEnd w) s =
      .next (completeRewind w (s.setWindow w { s.window w with rewind := some { c with stop := some f } }))) ∧
    (c.pauseRequested = false → 0 < f.remaining → exec (.drainEnd w) s = .next (grantRewindSource (s.setWindow w
      { s.window w with
        rewind := some { c with
          stop := some f
          phase := .walk
          inHand := some { position := f.nextPosition, sequence := f.nextSequence, kind := none, stage := .header,
                           redo := false, ready := true, headerLine := 0, dataLine := 0 } } }))) ∧
    (c.pauseRequested = true → exec (.drainEnd w) s = .next (raiseTrigger
      (emit { kind := .rewindPaused, window := some w, generation := some c.target, restored := some c.restored,
              skipped := some c.skipped, remaining := some f.remaining }
        (s.setWindow w { s.window w with
          state := .paused, rewind := some { c with stop := some f, pauseRequested := false } }))))) ∧
  (∀ (w : WindowIdx) (s : State), (s.window w).state ≠ .rewinding ∨ drainEmpty s w = false →
    exec (.drainEnd w) s = .next s) ∧
  (∀ (w : WindowIdx) (s : State) (waited : Owner → Prop),
    (∀ o, waited o ↔ (∃ q g, o = .request q g) ∨ (∃ k, o = .trigger k) ∨ (∃ k, o = .capture k .captureRead) ∨
      o = .rewind w .restoreWrite) →
    (drainEmpty s w = true ↔
      (∀ r ∈ s.forwardQ, waited r.owner → (s.window w).covers r.line = false) ∧
      (∀ k sl, s.slot k = some sl → sl.window ≠ w) ∧
      (∀ k e, s.entry k = some e → waited e.request.owner → (s.window w).covers e.request.line = false)))

/-- The REWIND source turns (R74, R132): with no rewind operation in flight, the next window after the one granted last, 15
followed by 0, that has an operation ready is granted, and its operation is offered; with one in flight nothing changes. The
operation of a record in hand (R75 to R77, R126): at stage HEADER a READ of the header line, at ring base plus 128 times the
position; at DATA a READ of the data line, 64 bytes above; at RESTORE a WRITE of the line that the header names, with the bytes
of the data line and every byte enabled. -/
def Obligations.TheRewindSourceTurnsRoundRobin : Prop :=
  (∀ (w : WindowIdx) (c : RewindContext) (r : RecordInHand) (s : State), rewindInFlight s = false →
    (s.window w).rewindReady = true → (s.window w).rewind = some c → c.inHand = some r →
    (∀ u : WindowIdx, (u.val + 15 - s.rewindLast.val) % 16 < (w.val + 15 - s.rewindLast.val) % 16 →
      (s.window u).rewindReady = false) →
    grantRewindSource s = { s.setWindow w { s.window w with
        rewind := some { c with inHand := some { r with ready := false } } } with
      rewindOffer := some (rewindRequest w (s.window w) r), rewindLast := w }) ∧
  (∀ s : State, rewindInFlight s = true ∨ (∀ w, (s.window w).rewindReady = false) → grantRewindSource s = s) ∧
  (∀ (w : WindowIdx) (v : Window) (b : RingBinding) (r : RecordInHand), v.binding = some b → b.base.toNat % 64 = 0 →
    b.base.toNat + 128 * r.position + 128 ≤ 2 ^ 40 →
    (r.stage = .header → (rewindRequest w v r).owner = .rewind w .headerRead ∧ (rewindRequest w v r).op = .read ∧
      Line.addr (rewindRequest w v r).line = b.base.toNat + 128 * r.position) ∧
    (r.stage = .data → (rewindRequest w v r).owner = .rewind w .dataRead ∧ (rewindRequest w v r).op = .read ∧
      Line.addr (rewindRequest w v r).line = b.base.toNat + 128 * r.position + 64) ∧
    (r.stage = .restore → (rewindRequest w v r).owner = .rewind w .restoreWrite ∧
      (rewindRequest w v r).op = .write r.dataLine (BitVec.allOnes 64) ∧
      (addressValid v r.headerLine = true → Line.addr (rewindRequest w v r).line =
        leValue (((lineBytes r.headerLine).drop 12).take 5))))

/-! ### Laws that every step keeps -/

/-- The state after reset meets every law below. -/
def Obligations.ResetMeetsTheLaws : Prop :=
  EventsBounded State.reset ∧ HeldIsFrame State.reset ∧ AdmissionBounded State.reset ∧ OnePresented State.reset ∧
    FilterOk State.reset ∧ EveryWindow RingBounded State.reset ∧ EveryWindow TimerWithArming State.reset ∧
    HistoryOk State.reset ∧ SlotsCounted State.reset ∧ OneRequestPerLine State.reset

/-- The event queue never holds more than 64 events (R173), and the held response is always a frame with its check (R146,
R148). At most one request is presented to the DRAM controller (R133, R134). -/
def Obligations.EveryStepKeepsQueueResponseAndPresentation : Prop :=
  (∀ s t : State, step s = .next t →
     (EventsBounded s → EventsBounded t) ∧ (HeldIsFrame s → HeldIsFrame t)) ∧
  (∀ s t : State, OnePresented s → step s = .next t → OnePresented t)

/-- The admission law (R105, R118, R121): at most 64 admitted requests and waiting responses together, told apart by
requester and tag; at most 32 parked, and a pass in progress stands within the list. -/
def Obligations.EveryStepKeepsTheAdmissionLaw : Prop :=
  ∀ s t : State, AdmissionBounded s → step s = .next t → AdmissionBounded t

/-- The filter keeps its form: sets in order, ways and lines told apart (R23, R27). -/
def Obligations.EveryStepKeepsTheFilter : Prop :=
  ∀ s t : State, FilterOk s → step s = .next t → FilterOk t

/-- Occupancy never exceeds capacity (R53), a window without an arming has the ring state of POR (R47), and a timer runs only
in an ARMED window (R95). -/
def Obligations.EveryStepKeepsRingsAndTimers : Prop :=
  ∀ s t : State, step s = .next t →
    (EveryWindow RingBounded s → EveryWindow RingBounded t) ∧ (EveryWindow TimerWithArming s → EveryWindow TimerWithArming t)

/-- The law of the generation list (R9, R10, R53), with what a rewind relies on. -/
def Obligations.EveryStepKeepsTheHistory : Prop :=
  ∀ s t : State, HistoryOk s → step s = .next t → HistoryOk t

/-- Slots pending count the busy slots (R31). -/
def Obligations.EveryStepKeepsTheSlotCounts : Prop :=
  ∀ s t : State, HistoryOk s → SlotsCounted s → step s = .next t → SlotsCounted t

/-- At most one placed request names any given line at any time (R113). -/
def Obligations.EveryStepKeepsOneRequestPerLine : Prop :=
  ∀ s t : State, OneRequestPerLine s → step s = .next t → OneRequestPerLine t
end

