-- ==== Sys2Proof/Laws/Bytes.lean ====
section
/-! SUPPORT. Fields of bytes: lengths, the number that written bytes spell, the bits of bytes, the shape of a response frame. -/

namespace Sys2Proof

theorem leBytes_length (n x : Nat) : (leBytes n x).length = n := by
  induction n generalizing x with
  | zero => rfl
  | succ n ih => simp [leBytes, ih]

theorem leBytes_zero (n : Nat) : leBytes n 0 = List.replicate n 0 := by
  induction n with
  | zero => rfl
  | succ n ih => simp [leBytes, ih, List.replicate_succ]

/-- The number that a field's bytes spell is the number written, at the field's width. -/
theorem leValue_leBytes (n x : Nat) : leValue (leBytes n x) = x % 256 ^ n := by
  induction n generalizing x with
  | zero => simp [leBytes, leValue, Nat.mod_one]
  | succ n ih =>
    simp only [leBytes, leValue, ih, BitVec.toNat_ofNat]
    rw [show (256 : Nat) ^ (n + 1) = 256 * 256 ^ n from by ring, Nat.mod_mul]

theorem padTo_length (n : Nat) (bs : List Byte) : (padTo n bs).length = n := by
  induction n generalizing bs with
  | zero => rfl
  | succ n ih => cases bs <;> simp [padTo, ih]

theorem padTo_nil (n : Nat) : padTo n [] = List.replicate n 0 := by
  induction n with
  | zero => rfl
  | succ n ih => simp [padTo, ih, List.replicate_succ]

/-- A field that fits is kept whole, with zeros behind it. -/
theorem padTo_of_le (n : Nat) (bs : List Byte) (h : bs.length ≤ n) : padTo n bs = bs ++ List.replicate (n - bs.length) 0 := by
  induction n generalizing bs with
  | zero => simp_all [padTo]
  | succ n ih =>
    cases bs with
    | nil => simp [padTo, padTo_nil, List.replicate_succ]
    | cons b bs =>
      have h' : bs.length ≤ n := by simpa using h
      simp [padTo, ih bs h']

theorem byteBits_length (b : Byte) : (byteBits b).length = 8 := rfl

theorem bitsByte_byteBits (b : Byte) : bitsByte (byteBits b) = b := by revert b; decide +kernel

theorem byteBits_flatMap_length (bs : List Byte) : (bs.flatMap byteBits).length = 8 * bs.length := by
  induction bs with
  | nil => rfl
  | cons b bs ih => simp only [List.flatMap_cons, List.length_append, byteBits_length, ih, List.length_cons]; omega

theorem bitsByte_append (b : Byte) (rest : List Bool) : bitsByte (byteBits b ++ rest) = b := by
  have h : (byteBits b ++ rest).take 8 = byteBits b := by rw [List.take_left' (byteBits_length b)]
  have h' : (byteBits b).take 8 = byteBits b := rfl
  have := bitsByte_byteBits b
  unfold bitsByte at this ⊢
  rw [h]; rw [h'] at this; exact this

/-- The bytes that the bits of bytes spell are those bytes. -/
theorem bitsBytes_flatMap (bs : List Byte) : bitsBytes bs.length (bs.flatMap byteBits) = bs := by
  induction bs with
  | nil => rfl
  | cons b bs ih =>
    have hl : ¬ (byteBits b ++ bs.flatMap byteBits).length < 8 := by simp [byteBits_length]
    simp only [List.length_cons, List.flatMap_cons, bitsBytes, hl, if_false, bitsByte_append]
    rw [List.drop_left' (byteBits_length b), ih]

end Sys2Proof

namespace Sys2Proof.Machine

open Sys2Proof

theorem responseFrame_length (status : Status) (echo number : Byte) (data : List Byte) :
    (responseFrame status echo number data).length = 64 := by
  simp [responseFrame, padTo_length]

/-- The last byte of a response frame is the check of the 63 before it (R146, R148). -/
theorem responseFrame_check (status : Status) (echo number : Byte) (data : List Byte) :
    (responseFrame status echo number data).getD 63 0 = crc8 ((responseFrame status echo number data).take 63) := by
  have h : (status.code :: echo :: number :: padTo 60 data).length = 63 := by simp [padTo_length]
  simp only [responseFrame]
  rw [List.take_left' h, List.getD_append_right _ _ _ _ (by omega), h]
  rfl

theorem responseFrame_status (status : Status) (echo number : Byte) (data : List Byte) :
    (responseFrame status echo number data).getD 0 0 = status.code := rfl

theorem responseFrame_echo (status : Status) (echo number : Byte) (data : List Byte) :
    (responseFrame status echo number data).getD 1 0 = echo := rfl

theorem responseFrame_number (status : Status) (echo number : Byte) (data : List Byte) :
    (responseFrame status echo number data).getD 2 0 = number := rfl

theorem opt1_length (o : Option Byte) : (opt1 o).length = 1 := rfl

theorem opt4_length (o : Option Nat) : (opt4 o).length = 4 := leBytes_length 4 _

theorem optLine_length (o : Option Line) : (optLine o).length = 5 := leBytes_length 5 _

theorem eventBytes_length (e : Event) : (eventBytes e).length = 46 := by
  simp [eventBytes, leBytes_length, opt1_length, opt4_length, optLine_length]

end Sys2Proof.Machine
end

