-- ==== Sys2Proof/Laws/State.lean ====
section
/-! SUPPORT. What one update of the state leaves as it was, field by field, and reads of what it wrote. -/

namespace Sys2Proof.Machine

open Sys2Proof

/-! ### setWindow -/

@[simp] theorem setWindow_filter (s : State) (w : WindowIdx) (v : Window) : (s.setWindow w v).filter = s.filter := rfl
@[simp] theorem setWindow_slots (s : State) (w : WindowIdx) (v : Window) : (s.setWindow w v).slots = s.slots := rfl
@[simp] theorem setWindow_admitted (s : State) (w : WindowIdx) (v : Window) : (s.setWindow w v).admitted = s.admitted := rfl
@[simp] theorem setWindow_park (s : State) (w : WindowIdx) (v : Window) : (s.setWindow w v).park = s.park := rfl
@[simp] theorem setWindow_waiting (s : State) (w : WindowIdx) (v : Window) : (s.setWindow w v).waiting = s.waiting := rfl
@[simp] theorem setWindow_reexamDue (s : State) (w : WindowIdx) (v : Window) : (s.setWindow w v).reexamDue = s.reexamDue := rfl
@[simp] theorem setWindow_pass (s : State) (w : WindowIdx) (v : Window) : (s.setWindow w v).pass = s.pass := rfl
@[simp] theorem setWindow_responses (s : State) (w : WindowIdx) (v : Window) : (s.setWindow w v).responses = s.responses := rfl
@[simp] theorem setWindow_forwardQ (s : State) (w : WindowIdx) (v : Window) : (s.setWindow w v).forwardQ = s.forwardQ := rfl
@[simp] theorem setWindow_captureQ (s : State) (w : WindowIdx) (v : Window) : (s.setWindow w v).captureQ = s.captureQ := rfl
@[simp] theorem setWindow_table (s : State) (w : WindowIdx) (v : Window) : (s.setWindow w v).table = s.table := rfl
@[simp] theorem setWindow_lastSource (s : State) (w : WindowIdx) (v : Window) : (s.setWindow w v).lastSource = s.lastSource := rfl
@[simp] theorem setWindow_timeout (s : State) (w : WindowIdx) (v : Window) : (s.setWindow w v).timeout = s.timeout := rfl
@[simp] theorem setWindow_rewindOffer (s : State) (w : WindowIdx) (v : Window) : (s.setWindow w v).rewindOffer = s.rewindOffer := rfl
@[simp] theorem setWindow_rewindLast (s : State) (w : WindowIdx) (v : Window) : (s.setWindow w v).rewindLast = s.rewindLast := rfl
@[simp] theorem setWindow_events (s : State) (w : WindowIdx) (v : Window) : (s.setWindow w v).events = s.events := rfl
@[simp] theorem setWindow_serial (s : State) (w : WindowIdx) (v : Window) : (s.setWindow w v).serial = s.serial := rfl
@[simp] theorem setWindow_lost (s : State) (w : WindowIdx) (v : Window) : (s.setWindow w v).lost = s.lost := rfl
@[simp] theorem setWindow_attnEnable (s : State) (w : WindowIdx) (v : Window) : (s.setWindow w v).attnEnable = s.attnEnable := rfl
@[simp] theorem setWindow_transfer (s : State) (w : WindowIdx) (v : Window) : (s.setWindow w v).transfer = s.transfer := rfl
@[simp] theorem setWindow_frameBuffer (s : State) (w : WindowIdx) (v : Window) : (s.setWindow w v).frameBuffer = s.frameBuffer := rfl
@[simp] theorem setWindow_waitCsRise (s : State) (w : WindowIdx) (v : Window) : (s.setWindow w v).waitCsRise = s.waitCsRise := rfl
@[simp] theorem setWindow_held (s : State) (w : WindowIdx) (v : Window) : (s.setWindow w v).held = s.held := rfl
@[simp] theorem setWindow_cmdNumber (s : State) (w : WindowIdx) (v : Window) : (s.setWindow w v).cmdNumber = s.cmdNumber := rfl
@[simp] theorem setWindow_srst (s : State) (w : WindowIdx) (v : Window) : (s.setWindow w v).srst = s.srst := rfl
@[simp] theorem setWindow_por (s : State) (w : WindowIdx) (v : Window) : (s.setWindow w v).por = s.por := rfl
@[simp] theorem setWindow_freeCount (s : State) (w : WindowIdx) (v : Window) : (s.setWindow w v).freeCount = s.freeCount := rfl
@[simp] theorem setWindow_pending (s : State) (w : WindowIdx) (v : Window) : (s.setWindow w v).pending = s.pending := rfl

/-! ### modWindow -/

@[simp] theorem modWindow_filter (s : State) (w : WindowIdx) (f : Window → Window) : (s.modWindow w f).filter = s.filter := rfl
@[simp] theorem modWindow_slots (s : State) (w : WindowIdx) (f : Window → Window) : (s.modWindow w f).slots = s.slots := rfl
@[simp] theorem modWindow_admitted (s : State) (w : WindowIdx) (f : Window → Window) : (s.modWindow w f).admitted = s.admitted := rfl
@[simp] theorem modWindow_park (s : State) (w : WindowIdx) (f : Window → Window) : (s.modWindow w f).park = s.park := rfl
@[simp] theorem modWindow_waiting (s : State) (w : WindowIdx) (f : Window → Window) : (s.modWindow w f).waiting = s.waiting := rfl
@[simp] theorem modWindow_reexamDue (s : State) (w : WindowIdx) (f : Window → Window) : (s.modWindow w f).reexamDue = s.reexamDue := rfl
@[simp] theorem modWindow_pass (s : State) (w : WindowIdx) (f : Window → Window) : (s.modWindow w f).pass = s.pass := rfl
@[simp] theorem modWindow_responses (s : State) (w : WindowIdx) (f : Window → Window) : (s.modWindow w f).responses = s.responses := rfl
@[simp] theorem modWindow_forwardQ (s : State) (w : WindowIdx) (f : Window → Window) : (s.modWindow w f).forwardQ = s.forwardQ := rfl
@[simp] theorem modWindow_captureQ (s : State) (w : WindowIdx) (f : Window → Window) : (s.modWindow w f).captureQ = s.captureQ := rfl
@[simp] theorem modWindow_table (s : State) (w : WindowIdx) (f : Window → Window) : (s.modWindow w f).table = s.table := rfl
@[simp] theorem modWindow_lastSource (s : State) (w : WindowIdx) (f : Window → Window) : (s.modWindow w f).lastSource = s.lastSource := rfl
@[simp] theorem modWindow_timeout (s : State) (w : WindowIdx) (f : Window → Window) : (s.modWindow w f).timeout = s.timeout := rfl
@[simp] theorem modWindow_rewindOffer (s : State) (w : WindowIdx) (f : Window → Window) : (s.modWindow w f).rewindOffer = s.rewindOffer := rfl
@[simp] theorem modWindow_rewindLast (s : State) (w : WindowIdx) (f : Window → Window) : (s.modWindow w f).rewindLast = s.rewindLast := rfl
@[simp] theorem modWindow_events (s : State) (w : WindowIdx) (f : Window → Window) : (s.modWindow w f).events = s.events := rfl
@[simp] theorem modWindow_serial (s : State) (w : WindowIdx) (f : Window → Window) : (s.modWindow w f).serial = s.serial := rfl
@[simp] theorem modWindow_lost (s : State) (w : WindowIdx) (f : Window → Window) : (s.modWindow w f).lost = s.lost := rfl
@[simp] theorem modWindow_attnEnable (s : State) (w : WindowIdx) (f : Window → Window) : (s.modWindow w f).attnEnable = s.attnEnable := rfl
@[simp] theorem modWindow_transfer (s : State) (w : WindowIdx) (f : Window → Window) : (s.modWindow w f).transfer = s.transfer := rfl
@[simp] theorem modWindow_frameBuffer (s : State) (w : WindowIdx) (f : Window → Window) : (s.modWindow w f).frameBuffer = s.frameBuffer := rfl
@[simp] theorem modWindow_waitCsRise (s : State) (w : WindowIdx) (f : Window → Window) : (s.modWindow w f).waitCsRise = s.waitCsRise := rfl
@[simp] theorem modWindow_held (s : State) (w : WindowIdx) (f : Window → Window) : (s.modWindow w f).held = s.held := rfl
@[simp] theorem modWindow_cmdNumber (s : State) (w : WindowIdx) (f : Window → Window) : (s.modWindow w f).cmdNumber = s.cmdNumber := rfl
@[simp] theorem modWindow_srst (s : State) (w : WindowIdx) (f : Window → Window) : (s.modWindow w f).srst = s.srst := rfl
@[simp] theorem modWindow_por (s : State) (w : WindowIdx) (f : Window → Window) : (s.modWindow w f).por = s.por := rfl
@[simp] theorem modWindow_freeCount (s : State) (w : WindowIdx) (f : Window → Window) : (s.modWindow w f).freeCount = s.freeCount := rfl
@[simp] theorem modWindow_pending (s : State) (w : WindowIdx) (f : Window → Window) : (s.modWindow w f).pending = s.pending := rfl

/-! ### setSlot -/

@[simp] theorem setSlot_windows (s : State) (k : SlotIdx) (v : Option Slot) : (s.setSlot k v).windows = s.windows := rfl
@[simp] theorem setSlot_filter (s : State) (k : SlotIdx) (v : Option Slot) : (s.setSlot k v).filter = s.filter := rfl
@[simp] theorem setSlot_admitted (s : State) (k : SlotIdx) (v : Option Slot) : (s.setSlot k v).admitted = s.admitted := rfl
@[simp] theorem setSlot_park (s : State) (k : SlotIdx) (v : Option Slot) : (s.setSlot k v).park = s.park := rfl
@[simp] theorem setSlot_waiting (s : State) (k : SlotIdx) (v : Option Slot) : (s.setSlot k v).waiting = s.waiting := rfl
@[simp] theorem setSlot_reexamDue (s : State) (k : SlotIdx) (v : Option Slot) : (s.setSlot k v).reexamDue = s.reexamDue := rfl
@[simp] theorem setSlot_pass (s : State) (k : SlotIdx) (v : Option Slot) : (s.setSlot k v).pass = s.pass := rfl
@[simp] theorem setSlot_responses (s : State) (k : SlotIdx) (v : Option Slot) : (s.setSlot k v).responses = s.responses := rfl
@[simp] theorem setSlot_forwardQ (s : State) (k : SlotIdx) (v : Option Slot) : (s.setSlot k v).forwardQ = s.forwardQ := rfl
@[simp] theorem setSlot_captureQ (s : State) (k : SlotIdx) (v : Option Slot) : (s.setSlot k v).captureQ = s.captureQ := rfl
@[simp] theorem setSlot_table (s : State) (k : SlotIdx) (v : Option Slot) : (s.setSlot k v).table = s.table := rfl
@[simp] theorem setSlot_lastSource (s : State) (k : SlotIdx) (v : Option Slot) : (s.setSlot k v).lastSource = s.lastSource := rfl
@[simp] theorem setSlot_timeout (s : State) (k : SlotIdx) (v : Option Slot) : (s.setSlot k v).timeout = s.timeout := rfl
@[simp] theorem setSlot_rewindOffer (s : State) (k : SlotIdx) (v : Option Slot) : (s.setSlot k v).rewindOffer = s.rewindOffer := rfl
@[simp] theorem setSlot_rewindLast (s : State) (k : SlotIdx) (v : Option Slot) : (s.setSlot k v).rewindLast = s.rewindLast := rfl
@[simp] theorem setSlot_events (s : State) (k : SlotIdx) (v : Option Slot) : (s.setSlot k v).events = s.events := rfl
@[simp] theorem setSlot_serial (s : State) (k : SlotIdx) (v : Option Slot) : (s.setSlot k v).serial = s.serial := rfl
@[simp] theorem setSlot_lost (s : State) (k : SlotIdx) (v : Option Slot) : (s.setSlot k v).lost = s.lost := rfl
@[simp] theorem setSlot_attnEnable (s : State) (k : SlotIdx) (v : Option Slot) : (s.setSlot k v).attnEnable = s.attnEnable := rfl
@[simp] theorem setSlot_transfer (s : State) (k : SlotIdx) (v : Option Slot) : (s.setSlot k v).transfer = s.transfer := rfl
@[simp] theorem setSlot_frameBuffer (s : State) (k : SlotIdx) (v : Option Slot) : (s.setSlot k v).frameBuffer = s.frameBuffer := rfl
@[simp] theorem setSlot_waitCsRise (s : State) (k : SlotIdx) (v : Option Slot) : (s.setSlot k v).waitCsRise = s.waitCsRise := rfl
@[simp] theorem setSlot_held (s : State) (k : SlotIdx) (v : Option Slot) : (s.setSlot k v).held = s.held := rfl
@[simp] theorem setSlot_cmdNumber (s : State) (k : SlotIdx) (v : Option Slot) : (s.setSlot k v).cmdNumber = s.cmdNumber := rfl
@[simp] theorem setSlot_srst (s : State) (k : SlotIdx) (v : Option Slot) : (s.setSlot k v).srst = s.srst := rfl
@[simp] theorem setSlot_por (s : State) (k : SlotIdx) (v : Option Slot) : (s.setSlot k v).por = s.por := rfl
@[simp] theorem setSlot_freeCount (s : State) (k : SlotIdx) (v : Option Slot) : (s.setSlot k v).freeCount = s.freeCount := rfl
@[simp] theorem setSlot_pending (s : State) (k : SlotIdx) (v : Option Slot) : (s.setSlot k v).pending = s.pending := rfl

/-! ### setEntry -/

@[simp] theorem setEntry_windows (s : State) (t : Ticket) (v : Option OutEntry) : (s.setEntry t v).windows = s.windows := rfl
@[simp] theorem setEntry_filter (s : State) (t : Ticket) (v : Option OutEntry) : (s.setEntry t v).filter = s.filter := rfl
@[simp] theorem setEntry_slots (s : State) (t : Ticket) (v : Option OutEntry) : (s.setEntry t v).slots = s.slots := rfl
@[simp] theorem setEntry_admitted (s : State) (t : Ticket) (v : Option OutEntry) : (s.setEntry t v).admitted = s.admitted := rfl
@[simp] theorem setEntry_park (s : State) (t : Ticket) (v : Option OutEntry) : (s.setEntry t v).park = s.park := rfl
@[simp] theorem setEntry_waiting (s : State) (t : Ticket) (v : Option OutEntry) : (s.setEntry t v).waiting = s.waiting := rfl
@[simp] theorem setEntry_reexamDue (s : State) (t : Ticket) (v : Option OutEntry) : (s.setEntry t v).reexamDue = s.reexamDue := rfl
@[simp] theorem setEntry_pass (s : State) (t : Ticket) (v : Option OutEntry) : (s.setEntry t v).pass = s.pass := rfl
@[simp] theorem setEntry_responses (s : State) (t : Ticket) (v : Option OutEntry) : (s.setEntry t v).responses = s.responses := rfl
@[simp] theorem setEntry_forwardQ (s : State) (t : Ticket) (v : Option OutEntry) : (s.setEntry t v).forwardQ = s.forwardQ := rfl
@[simp] theorem setEntry_captureQ (s : State) (t : Ticket) (v : Option OutEntry) : (s.setEntry t v).captureQ = s.captureQ := rfl
@[simp] theorem setEntry_lastSource (s : State) (t : Ticket) (v : Option OutEntry) : (s.setEntry t v).lastSource = s.lastSource := rfl
@[simp] theorem setEntry_timeout (s : State) (t : Ticket) (v : Option OutEntry) : (s.setEntry t v).timeout = s.timeout := rfl
@[simp] theorem setEntry_rewindOffer (s : State) (t : Ticket) (v : Option OutEntry) : (s.setEntry t v).rewindOffer = s.rewindOffer := rfl
@[simp] theorem setEntry_rewindLast (s : State) (t : Ticket) (v : Option OutEntry) : (s.setEntry t v).rewindLast = s.rewindLast := rfl
@[simp] theorem setEntry_events (s : State) (t : Ticket) (v : Option OutEntry) : (s.setEntry t v).events = s.events := rfl
@[simp] theorem setEntry_serial (s : State) (t : Ticket) (v : Option OutEntry) : (s.setEntry t v).serial = s.serial := rfl
@[simp] theorem setEntry_lost (s : State) (t : Ticket) (v : Option OutEntry) : (s.setEntry t v).lost = s.lost := rfl
@[simp] theorem setEntry_attnEnable (s : State) (t : Ticket) (v : Option OutEntry) : (s.setEntry t v).attnEnable = s.attnEnable := rfl
@[simp] theorem setEntry_transfer (s : State) (t : Ticket) (v : Option OutEntry) : (s.setEntry t v).transfer = s.transfer := rfl
@[simp] theorem setEntry_frameBuffer (s : State) (t : Ticket) (v : Option OutEntry) : (s.setEntry t v).frameBuffer = s.frameBuffer := rfl
@[simp] theorem setEntry_waitCsRise (s : State) (t : Ticket) (v : Option OutEntry) : (s.setEntry t v).waitCsRise = s.waitCsRise := rfl
@[simp] theorem setEntry_held (s : State) (t : Ticket) (v : Option OutEntry) : (s.setEntry t v).held = s.held := rfl
@[simp] theorem setEntry_cmdNumber (s : State) (t : Ticket) (v : Option OutEntry) : (s.setEntry t v).cmdNumber = s.cmdNumber := rfl
@[simp] theorem setEntry_srst (s : State) (t : Ticket) (v : Option OutEntry) : (s.setEntry t v).srst = s.srst := rfl
@[simp] theorem setEntry_por (s : State) (t : Ticket) (v : Option OutEntry) : (s.setEntry t v).por = s.por := rfl
@[simp] theorem setEntry_freeCount (s : State) (t : Ticket) (v : Option OutEntry) : (s.setEntry t v).freeCount = s.freeCount := rfl
@[simp] theorem setEntry_pending (s : State) (t : Ticket) (v : Option OutEntry) : (s.setEntry t v).pending = s.pending := rfl

/-! ### emit -/

@[simp] theorem emit_windows (s : State) (b : EventBody) : (emit b s).windows = s.windows := rfl
@[simp] theorem emit_filter (s : State) (b : EventBody) : (emit b s).filter = s.filter := rfl
@[simp] theorem emit_slots (s : State) (b : EventBody) : (emit b s).slots = s.slots := rfl
@[simp] theorem emit_admitted (s : State) (b : EventBody) : (emit b s).admitted = s.admitted := rfl
@[simp] theorem emit_park (s : State) (b : EventBody) : (emit b s).park = s.park := rfl
@[simp] theorem emit_waiting (s : State) (b : EventBody) : (emit b s).waiting = s.waiting := rfl
@[simp] theorem emit_reexamDue (s : State) (b : EventBody) : (emit b s).reexamDue = s.reexamDue := rfl
@[simp] theorem emit_pass (s : State) (b : EventBody) : (emit b s).pass = s.pass := rfl
@[simp] theorem emit_responses (s : State) (b : EventBody) : (emit b s).responses = s.responses := rfl
@[simp] theorem emit_forwardQ (s : State) (b : EventBody) : (emit b s).forwardQ = s.forwardQ := rfl
@[simp] theorem emit_captureQ (s : State) (b : EventBody) : (emit b s).captureQ = s.captureQ := rfl
@[simp] theorem emit_table (s : State) (b : EventBody) : (emit b s).table = s.table := rfl
@[simp] theorem emit_lastSource (s : State) (b : EventBody) : (emit b s).lastSource = s.lastSource := rfl
@[simp] theorem emit_timeout (s : State) (b : EventBody) : (emit b s).timeout = s.timeout := rfl
@[simp] theorem emit_rewindOffer (s : State) (b : EventBody) : (emit b s).rewindOffer = s.rewindOffer := rfl
@[simp] theorem emit_rewindLast (s : State) (b : EventBody) : (emit b s).rewindLast = s.rewindLast := rfl
@[simp] theorem emit_attnEnable (s : State) (b : EventBody) : (emit b s).attnEnable = s.attnEnable := rfl
@[simp] theorem emit_transfer (s : State) (b : EventBody) : (emit b s).transfer = s.transfer := rfl
@[simp] theorem emit_frameBuffer (s : State) (b : EventBody) : (emit b s).frameBuffer = s.frameBuffer := rfl
@[simp] theorem emit_waitCsRise (s : State) (b : EventBody) : (emit b s).waitCsRise = s.waitCsRise := rfl
@[simp] theorem emit_held (s : State) (b : EventBody) : (emit b s).held = s.held := rfl
@[simp] theorem emit_cmdNumber (s : State) (b : EventBody) : (emit b s).cmdNumber = s.cmdNumber := rfl
@[simp] theorem emit_srst (s : State) (b : EventBody) : (emit b s).srst = s.srst := rfl
@[simp] theorem emit_por (s : State) (b : EventBody) : (emit b s).por = s.por := rfl
@[simp] theorem emit_freeCount (s : State) (b : EventBody) : (emit b s).freeCount = s.freeCount := rfl
@[simp] theorem emit_pending (s : State) (b : EventBody) : (emit b s).pending = s.pending := rfl

/-! ### respond -/

@[simp] theorem respond_windows (s : State) (r : SysResponse) : (respond r s).windows = s.windows := rfl
@[simp] theorem respond_filter (s : State) (r : SysResponse) : (respond r s).filter = s.filter := rfl
@[simp] theorem respond_slots (s : State) (r : SysResponse) : (respond r s).slots = s.slots := rfl
@[simp] theorem respond_admitted (s : State) (r : SysResponse) : (respond r s).admitted = s.admitted := rfl
@[simp] theorem respond_park (s : State) (r : SysResponse) : (respond r s).park = s.park := rfl
@[simp] theorem respond_waiting (s : State) (r : SysResponse) : (respond r s).waiting = s.waiting := rfl
@[simp] theorem respond_reexamDue (s : State) (r : SysResponse) : (respond r s).reexamDue = s.reexamDue := rfl
@[simp] theorem respond_pass (s : State) (r : SysResponse) : (respond r s).pass = s.pass := rfl
@[simp] theorem respond_forwardQ (s : State) (r : SysResponse) : (respond r s).forwardQ = s.forwardQ := rfl
@[simp] theorem respond_captureQ (s : State) (r : SysResponse) : (respond r s).captureQ = s.captureQ := rfl
@[simp] theorem respond_table (s : State) (r : SysResponse) : (respond r s).table = s.table := rfl
@[simp] theorem respond_lastSource (s : State) (r : SysResponse) : (respond r s).lastSource = s.lastSource := rfl
@[simp] theorem respond_timeout (s : State) (r : SysResponse) : (respond r s).timeout = s.timeout := rfl
@[simp] theorem respond_rewindOffer (s : State) (r : SysResponse) : (respond r s).rewindOffer = s.rewindOffer := rfl
@[simp] theorem respond_rewindLast (s : State) (r : SysResponse) : (respond r s).rewindLast = s.rewindLast := rfl
@[simp] theorem respond_events (s : State) (r : SysResponse) : (respond r s).events = s.events := rfl
@[simp] theorem respond_serial (s : State) (r : SysResponse) : (respond r s).serial = s.serial := rfl
@[simp] theorem respond_lost (s : State) (r : SysResponse) : (respond r s).lost = s.lost := rfl
@[simp] theorem respond_attnEnable (s : State) (r : SysResponse) : (respond r s).attnEnable = s.attnEnable := rfl
@[simp] theorem respond_transfer (s : State) (r : SysResponse) : (respond r s).transfer = s.transfer := rfl
@[simp] theorem respond_frameBuffer (s : State) (r : SysResponse) : (respond r s).frameBuffer = s.frameBuffer := rfl
@[simp] theorem respond_waitCsRise (s : State) (r : SysResponse) : (respond r s).waitCsRise = s.waitCsRise := rfl
@[simp] theorem respond_held (s : State) (r : SysResponse) : (respond r s).held = s.held := rfl
@[simp] theorem respond_cmdNumber (s : State) (r : SysResponse) : (respond r s).cmdNumber = s.cmdNumber := rfl
@[simp] theorem respond_srst (s : State) (r : SysResponse) : (respond r s).srst = s.srst := rfl
@[simp] theorem respond_por (s : State) (r : SysResponse) : (respond r s).por = s.por := rfl
@[simp] theorem respond_freeCount (s : State) (r : SysResponse) : (respond r s).freeCount = s.freeCount := rfl
@[simp] theorem respond_pending (s : State) (r : SysResponse) : (respond r s).pending = s.pending := rfl

/-! ### answer -/

@[simp] theorem answer_windows (s : State) (r : Requester) (t : Tag) (u : SysStatus) (d : Option LineData) : (answer r t u d s).windows = s.windows := rfl
@[simp] theorem answer_filter (s : State) (r : Requester) (t : Tag) (u : SysStatus) (d : Option LineData) : (answer r t u d s).filter = s.filter := rfl
@[simp] theorem answer_slots (s : State) (r : Requester) (t : Tag) (u : SysStatus) (d : Option LineData) : (answer r t u d s).slots = s.slots := rfl
@[simp] theorem answer_park (s : State) (r : Requester) (t : Tag) (u : SysStatus) (d : Option LineData) : (answer r t u d s).park = s.park := rfl
@[simp] theorem answer_waiting (s : State) (r : Requester) (t : Tag) (u : SysStatus) (d : Option LineData) : (answer r t u d s).waiting = s.waiting := rfl
@[simp] theorem answer_reexamDue (s : State) (r : Requester) (t : Tag) (u : SysStatus) (d : Option LineData) : (answer r t u d s).reexamDue = s.reexamDue := rfl
@[simp] theorem answer_pass (s : State) (r : Requester) (t : Tag) (u : SysStatus) (d : Option LineData) : (answer r t u d s).pass = s.pass := rfl
@[simp] theorem answer_forwardQ (s : State) (r : Requester) (t : Tag) (u : SysStatus) (d : Option LineData) : (answer r t u d s).forwardQ = s.forwardQ := rfl
@[simp] theorem answer_captureQ (s : State) (r : Requester) (t : Tag) (u : SysStatus) (d : Option LineData) : (answer r t u d s).captureQ = s.captureQ := rfl
@[simp] theorem answer_table (s : State) (r : Requester) (t : Tag) (u : SysStatus) (d : Option LineData) : (answer r t u d s).table = s.table := rfl
@[simp] theorem answer_lastSource (s : State) (r : Requester) (t : Tag) (u : SysStatus) (d : Option LineData) : (answer r t u d s).lastSource = s.lastSource := rfl
@[simp] theorem answer_timeout (s : State) (r : Requester) (t : Tag) (u : SysStatus) (d : Option LineData) : (answer r t u d s).timeout = s.timeout := rfl
@[simp] theorem answer_rewindOffer (s : State) (r : Requester) (t : Tag) (u : SysStatus) (d : Option LineData) : (answer r t u d s).rewindOffer = s.rewindOffer := rfl
@[simp] theorem answer_rewindLast (s : State) (r : Requester) (t : Tag) (u : SysStatus) (d : Option LineData) : (answer r t u d s).rewindLast = s.rewindLast := rfl
@[simp] theorem answer_events (s : State) (r : Requester) (t : Tag) (u : SysStatus) (d : Option LineData) : (answer r t u d s).events = s.events := rfl
@[simp] theorem answer_serial (s : State) (r : Requester) (t : Tag) (u : SysStatus) (d : Option LineData) : (answer r t u d s).serial = s.serial := rfl
@[simp] theorem answer_lost (s : State) (r : Requester) (t : Tag) (u : SysStatus) (d : Option LineData) : (answer r t u d s).lost = s.lost := rfl
@[simp] theorem answer_attnEnable (s : State) (r : Requester) (t : Tag) (u : SysStatus) (d : Option LineData) : (answer r t u d s).attnEnable = s.attnEnable := rfl
@[simp] theorem answer_transfer (s : State) (r : Requester) (t : Tag) (u : SysStatus) (d : Option LineData) : (answer r t u d s).transfer = s.transfer := rfl
@[simp] theorem answer_frameBuffer (s : State) (r : Requester) (t : Tag) (u : SysStatus) (d : Option LineData) : (answer r t u d s).frameBuffer = s.frameBuffer := rfl
@[simp] theorem answer_waitCsRise (s : State) (r : Requester) (t : Tag) (u : SysStatus) (d : Option LineData) : (answer r t u d s).waitCsRise = s.waitCsRise := rfl
@[simp] theorem answer_held (s : State) (r : Requester) (t : Tag) (u : SysStatus) (d : Option LineData) : (answer r t u d s).held = s.held := rfl
@[simp] theorem answer_cmdNumber (s : State) (r : Requester) (t : Tag) (u : SysStatus) (d : Option LineData) : (answer r t u d s).cmdNumber = s.cmdNumber := rfl
@[simp] theorem answer_srst (s : State) (r : Requester) (t : Tag) (u : SysStatus) (d : Option LineData) : (answer r t u d s).srst = s.srst := rfl
@[simp] theorem answer_por (s : State) (r : Requester) (t : Tag) (u : SysStatus) (d : Option LineData) : (answer r t u d s).por = s.por := rfl
@[simp] theorem answer_freeCount (s : State) (r : Requester) (t : Tag) (u : SysStatus) (d : Option LineData) : (answer r t u d s).freeCount = s.freeCount := rfl
@[simp] theorem answer_pending (s : State) (r : Requester) (t : Tag) (u : SysStatus) (d : Option LineData) : (answer r t u d s).pending = s.pending := rfl

/-! ### raiseTrigger -/

@[simp] theorem raiseTrigger_windows (s : State) : (raiseTrigger s).windows = s.windows := rfl
@[simp] theorem raiseTrigger_filter (s : State) : (raiseTrigger s).filter = s.filter := rfl
@[simp] theorem raiseTrigger_slots (s : State) : (raiseTrigger s).slots = s.slots := rfl
@[simp] theorem raiseTrigger_admitted (s : State) : (raiseTrigger s).admitted = s.admitted := rfl
@[simp] theorem raiseTrigger_park (s : State) : (raiseTrigger s).park = s.park := rfl
@[simp] theorem raiseTrigger_waiting (s : State) : (raiseTrigger s).waiting = s.waiting := rfl
@[simp] theorem raiseTrigger_pass (s : State) : (raiseTrigger s).pass = s.pass := rfl
@[simp] theorem raiseTrigger_responses (s : State) : (raiseTrigger s).responses = s.responses := rfl
@[simp] theorem raiseTrigger_forwardQ (s : State) : (raiseTrigger s).forwardQ = s.forwardQ := rfl
@[simp] theorem raiseTrigger_captureQ (s : State) : (raiseTrigger s).captureQ = s.captureQ := rfl
@[simp] theorem raiseTrigger_table (s : State) : (raiseTrigger s).table = s.table := rfl
@[simp] theorem raiseTrigger_lastSource (s : State) : (raiseTrigger s).lastSource = s.lastSource := rfl
@[simp] theorem raiseTrigger_timeout (s : State) : (raiseTrigger s).timeout = s.timeout := rfl
@[simp] theorem raiseTrigger_rewindOffer (s : State) : (raiseTrigger s).rewindOffer = s.rewindOffer := rfl
@[simp] theorem raiseTrigger_rewindLast (s : State) : (raiseTrigger s).rewindLast = s.rewindLast := rfl
@[simp] theorem raiseTrigger_events (s : State) : (raiseTrigger s).events = s.events := rfl
@[simp] theorem raiseTrigger_serial (s : State) : (raiseTrigger s).serial = s.serial := rfl
@[simp] theorem raiseTrigger_lost (s : State) : (raiseTrigger s).lost = s.lost := rfl
@[simp] theorem raiseTrigger_attnEnable (s : State) : (raiseTrigger s).attnEnable = s.attnEnable := rfl
@[simp] theorem raiseTrigger_transfer (s : State) : (raiseTrigger s).transfer = s.transfer := rfl
@[simp] theorem raiseTrigger_frameBuffer (s : State) : (raiseTrigger s).frameBuffer = s.frameBuffer := rfl
@[simp] theorem raiseTrigger_waitCsRise (s : State) : (raiseTrigger s).waitCsRise = s.waitCsRise := rfl
@[simp] theorem raiseTrigger_held (s : State) : (raiseTrigger s).held = s.held := rfl
@[simp] theorem raiseTrigger_cmdNumber (s : State) : (raiseTrigger s).cmdNumber = s.cmdNumber := rfl
@[simp] theorem raiseTrigger_srst (s : State) : (raiseTrigger s).srst = s.srst := rfl
@[simp] theorem raiseTrigger_por (s : State) : (raiseTrigger s).por = s.por := rfl
@[simp] theorem raiseTrigger_freeCount (s : State) : (raiseTrigger s).freeCount = s.freeCount := rfl
@[simp] theorem raiseTrigger_pending (s : State) : (raiseTrigger s).pending = s.pending := rfl

/-! ### Readers -/

@[simp] theorem setWindow_slot (s : State) (w : WindowIdx) (v : Window) (x : SlotIdx) : (s.setWindow w v).slot x = s.slot x := rfl
@[simp] theorem setWindow_slotsOf (s : State) (w : WindowIdx) (v : Window) (x : WindowIdx) : (s.setWindow w v).slotsOf x = s.slotsOf x := rfl
@[simp] theorem setWindow_busySlots (s : State) (w : WindowIdx) (v : Window) : (s.setWindow w v).busySlots = s.busySlots := rfl
@[simp] theorem setWindow_entry (s : State) (w : WindowIdx) (v : Window) (x : Ticket) : (s.setWindow w v).entry x = s.entry x := rfl
@[simp] theorem setWindow_occupied (s : State) (w : WindowIdx) (v : Window) : (s.setWindow w v).occupied = s.occupied := rfl
@[simp] theorem modWindow_slot (s : State) (w : WindowIdx) (f : Window → Window) (x : SlotIdx) : (s.modWindow w f).slot x = s.slot x := rfl
@[simp] theorem modWindow_slotsOf (s : State) (w : WindowIdx) (f : Window → Window) (x : WindowIdx) : (s.modWindow w f).slotsOf x = s.slotsOf x := rfl
@[simp] theorem modWindow_busySlots (s : State) (w : WindowIdx) (f : Window → Window) : (s.modWindow w f).busySlots = s.busySlots := rfl
@[simp] theorem modWindow_entry (s : State) (w : WindowIdx) (f : Window → Window) (x : Ticket) : (s.modWindow w f).entry x = s.entry x := rfl
@[simp] theorem modWindow_occupied (s : State) (w : WindowIdx) (f : Window → Window) : (s.modWindow w f).occupied = s.occupied := rfl
@[simp] theorem setSlot_window (s : State) (k : SlotIdx) (v : Option Slot) (x : WindowIdx) : (s.setSlot k v).window x = s.window x := rfl
@[simp] theorem setSlot_entry (s : State) (k : SlotIdx) (v : Option Slot) (x : Ticket) : (s.setSlot k v).entry x = s.entry x := rfl
@[simp] theorem setSlot_occupied (s : State) (k : SlotIdx) (v : Option Slot) : (s.setSlot k v).occupied = s.occupied := rfl
@[simp] theorem setEntry_window (s : State) (t : Ticket) (v : Option OutEntry) (x : WindowIdx) : (s.setEntry t v).window x = s.window x := rfl
@[simp] theorem setEntry_slot (s : State) (t : Ticket) (v : Option OutEntry) (x : SlotIdx) : (s.setEntry t v).slot x = s.slot x := rfl
@[simp] theorem setEntry_slotsOf (s : State) (t : Ticket) (v : Option OutEntry) (x : WindowIdx) : (s.setEntry t v).slotsOf x = s.slotsOf x := rfl
@[simp] theorem setEntry_busySlots (s : State) (t : Ticket) (v : Option OutEntry) : (s.setEntry t v).busySlots = s.busySlots := rfl
@[simp] theorem emit_window (s : State) (b : EventBody) (x : WindowIdx) : (emit b s).window x = s.window x := rfl
@[simp] theorem emit_slot (s : State) (b : EventBody) (x : SlotIdx) : (emit b s).slot x = s.slot x := rfl
@[simp] theorem emit_slotsOf (s : State) (b : EventBody) (x : WindowIdx) : (emit b s).slotsOf x = s.slotsOf x := rfl
@[simp] theorem emit_busySlots (s : State) (b : EventBody) : (emit b s).busySlots = s.busySlots := rfl
@[simp] theorem emit_entry (s : State) (b : EventBody) (x : Ticket) : (emit b s).entry x = s.entry x := rfl
@[simp] theorem emit_occupied (s : State) (b : EventBody) : (emit b s).occupied = s.occupied := rfl
@[simp] theorem respond_window (s : State) (r : SysResponse) (x : WindowIdx) : (respond r s).window x = s.window x := rfl
@[simp] theorem respond_slot (s : State) (r : SysResponse) (x : SlotIdx) : (respond r s).slot x = s.slot x := rfl
@[simp] theorem respond_slotsOf (s : State) (r : SysResponse) (x : WindowIdx) : (respond r s).slotsOf x = s.slotsOf x := rfl
@[simp] theorem respond_busySlots (s : State) (r : SysResponse) : (respond r s).busySlots = s.busySlots := rfl
@[simp] theorem respond_entry (s : State) (r : SysResponse) (x : Ticket) : (respond r s).entry x = s.entry x := rfl
@[simp] theorem respond_occupied (s : State) (r : SysResponse) : (respond r s).occupied = s.occupied := rfl
@[simp] theorem answer_window (s : State) (r : Requester) (t : Tag) (u : SysStatus) (d : Option LineData) (x : WindowIdx) : (answer r t u d s).window x = s.window x := rfl
@[simp] theorem answer_slot (s : State) (r : Requester) (t : Tag) (u : SysStatus) (d : Option LineData) (x : SlotIdx) : (answer r t u d s).slot x = s.slot x := rfl
@[simp] theorem answer_slotsOf (s : State) (r : Requester) (t : Tag) (u : SysStatus) (d : Option LineData) (x : WindowIdx) : (answer r t u d s).slotsOf x = s.slotsOf x := rfl
@[simp] theorem answer_busySlots (s : State) (r : Requester) (t : Tag) (u : SysStatus) (d : Option LineData) : (answer r t u d s).busySlots = s.busySlots := rfl
@[simp] theorem answer_entry (s : State) (r : Requester) (t : Tag) (u : SysStatus) (d : Option LineData) (x : Ticket) : (answer r t u d s).entry x = s.entry x := rfl
@[simp] theorem answer_occupied (s : State) (r : Requester) (t : Tag) (u : SysStatus) (d : Option LineData) : (answer r t u d s).occupied = s.occupied := rfl
@[simp] theorem raiseTrigger_window (s : State) (x : WindowIdx) : (raiseTrigger s).window x = s.window x := rfl
@[simp] theorem raiseTrigger_slot (s : State) (x : SlotIdx) : (raiseTrigger s).slot x = s.slot x := rfl
@[simp] theorem raiseTrigger_slotsOf (s : State) (x : WindowIdx) : (raiseTrigger s).slotsOf x = s.slotsOf x := rfl
@[simp] theorem raiseTrigger_busySlots (s : State) : (raiseTrigger s).busySlots = s.busySlots := rfl
@[simp] theorem raiseTrigger_entry (s : State) (x : Ticket) : (raiseTrigger s).entry x = s.entry x := rfl
@[simp] theorem raiseTrigger_occupied (s : State) : (raiseTrigger s).occupied = s.occupied := rfl

/-- A window reads what was written to it. -/
@[simp] theorem window_setWindow_self (s : State) (w : WindowIdx) (v : Window) : (s.setWindow w v).window w = v := by
  simp [State.window, State.setWindow]

/-- A window is as it was when another was written. -/
theorem window_setWindow_ne (s : State) {w u : WindowIdx} (v : Window) (h : u ≠ w) :
    (s.setWindow w v).window u = s.window u := by
  have h' : ¬(w.val = u.val) := fun e => h (Fin.ext e.symm)
  simp [State.window, State.setWindow, h']

/-- Reading any window after a write to one. -/
theorem window_setWindow (s : State) (w u : WindowIdx) (v : Window) :
    (s.setWindow w v).window u = if u = w then v else s.window u := by
  by_cases h : u = w
  · subst h; simp
  · simp [h, window_setWindow_ne s v h]

@[simp] theorem window_modWindow_self (s : State) (w : WindowIdx) (f : Window → Window) :
    (s.modWindow w f).window w = f (s.window w) := window_setWindow_self s w _

theorem window_modWindow_ne (s : State) {w u : WindowIdx} (f : Window → Window) (h : u ≠ w) :
    (s.modWindow w f).window u = s.window u := window_setWindow_ne s _ h

/-- A slot reads what was written to it. -/
@[simp] theorem slot_setSlot_self (s : State) (k : SlotIdx) (v : Option Slot) : (s.setSlot k v).slot k = v := by
  simp [State.slot, State.setSlot]

theorem slot_setSlot_ne (s : State) {k j : SlotIdx} (v : Option Slot) (h : j ≠ k) :
    (s.setSlot k v).slot j = s.slot j := by
  have h' : ¬(k.val = j.val) := fun e => h (Fin.ext e.symm)
  simp [State.slot, State.setSlot, h']

/-- An outstanding-table entry reads what was written to it. -/
@[simp] theorem entry_setEntry_self (s : State) (t : Ticket) (v : Option OutEntry) : (s.setEntry t v).entry t = v := by
  simp [State.entry, State.setEntry]

theorem entry_setEntry_ne (s : State) {t u : Ticket} (v : Option OutEntry) (h : u ≠ t) :
    (s.setEntry t v).entry u = s.entry u := by
  have h' : ¬(t.val = u.val) := fun e => h (Fin.ext e.symm)
  simp [State.entry, State.setEntry, h']

/-- Two writes to one window: the second stands. -/
@[simp] theorem setWindow_setWindow (s : State) (w : WindowIdx) (u v : Window) :
    (s.setWindow w u).setWindow w v = s.setWindow w v := by
  simp [State.setWindow, Vector.set_set]

/-- Writing back what a window holds changes nothing. -/
@[simp] theorem setWindow_window (s : State) (w : WindowIdx) : s.setWindow w (s.window w) = s := by
  simp [State.setWindow, State.window]

/-- Two states with the same windows and, else, the same fields are one: windows are told apart by their index. -/
theorem windows_ext {s t : State} (h : ∀ w : WindowIdx, s.window w = t.window w) : s.windows = t.windows := by
  apply Vector.ext
  intro i hi
  exact h ⟨i, hi⟩

end Sys2Proof.Machine
end

