-- ==== Sys2Proof/Laws/Ops.lean ====
section
/-! SUPPORT. The shared operations, each said once: events, answers, triggers, the taking of a command, the generation list. -/

namespace Sys2Proof.Machine

open Sys2Proof

/-! ### Events, answers, triggers -/

/-- An event that finds room is stored with the counter's serial (R171, R172). -/
theorem emit_of_room (b : EventBody) (s : State) (h : s.events.length < 64) :
    emit b s = { s with events := s.events ++ [{ serial := s.serial, body := b }], serial := s.serial + 1 } := by
  simp [emit, h]

/-- An event that finds the queue full is lost (R173). -/
theorem emit_of_full (b : EventBody) (s : State) (h : 64 ≤ s.events.length) :
    emit b s = { s with serial := s.serial + 1, lost := true } := by
  have h' : ¬ s.events.length < 64 := by omega
  simp [emit, h']

theorem emit_bounded (b : EventBody) (s : State) (h : EventsBounded s) : EventsBounded (emit b s) := by
  unfold EventsBounded at *
  by_cases hr : s.events.length < 64
  · rw [emit_of_room b s hr]; simp; omega
  · rw [emit_of_full b s (by omega)]; exact h

/-- An admitted request is answered once. -/
theorem answer_of_mem (q : Requester) (g : Tag) (st : SysStatus) (d : Option LineData) (s : State) (h : (q, g) ∈ s.admitted) :
    answer q g st d s = { s with
      admitted := s.admitted.erase (q, g)
      responses := s.responses ++ [{ requester := q, tag := g, status := st, data := d }] } := by
  simp [answer, h]

/-- A request that is not admitted is not answered. -/
theorem answer_of_not_mem (q : Requester) (g : Tag) (st : SysStatus) (d : Option LineData) (s : State)
    (h : (q, g) ∉ s.admitted) : answer q g st d s = s := by
  simp [answer, h, List.erase_of_not_mem h]

/-- Answering leaves the number of requests and responses held together as it was. -/
theorem answer_together (q : Requester) (g : Tag) (st : SysStatus) (d : Option LineData) (s : State) :
    (answer q g st d s).admitted.length + (answer q g st d s).responses.length =
      s.admitted.length + s.responses.length := by
  by_cases h : (q, g) ∈ s.admitted
  · rw [answer_of_mem q g st d s h]
    have := List.length_erase_of_mem h
    have hp := List.length_pos_of_mem h
    simp; omega
  · rw [answer_of_not_mem q g st d s h]

theorem raiseTrigger_of_none (s : State) (hp : s.park = []) (hw : s.waiting = none) : raiseTrigger s = s := by
  have h : (s.reexamDue || !(s.park.isEmpty && s.waiting.isNone)) = s.reexamDue := by simp [hp, hw]
  simp only [raiseTrigger, h]

/-! ### A taken command -/

theorem windowOfByte_windowByte (w : WindowIdx) : windowOfByte (windowByte w) = some w := by revert w; decide

theorem windowOfByte_of_large (b : Byte) (h : 15 < b.toNat) : windowOfByte b = none := by
  simp [windowOfByte]; omega

theorem onWindow_windowByte (w : WindowIdx) (f : WindowIdx → State → Reply × State) (s : State) :
    onWindow (windowByte w) f s = f w s := by
  simp [onWindow, windowOfByte_windowByte]

theorem onWindow_of_large (b : Byte) (f : WindowIdx → State → Reply × State) (s : State) (h : 15 < b.toNat) :
    onWindow b f s = refuse .badWindow s := by
  simp [onWindow, windowOfByte_of_large b h]

/-- A command taken outside POR_N leaves its response on what it decided. -/
theorem takeCommand_on {s : State} (h : s.por = false) (echo : Byte) (decision : State → Reply × State) :
    takeCommand echo decision s = taken (decision s).1.status echo (decision s).1.data s (decision s).2 := by
  simp [takeCommand, unlessPor, h]

/-- Under POR_N no command is taken. -/
theorem takeCommand_por {s : State} (h : s.por = true) (echo : Byte) (decision : State → Reply × State) :
    takeCommand echo decision s = s := by
  simp [takeCommand, unlessPor, h]

/-- The response of a taken command is a frame with its check. -/
theorem taken_heldIsFrame (status : Status) (echo : Byte) (data : List Byte) (s t : State) :
    HeldIsFrame (taken status echo data s t) :=
  ⟨responseFrame_length _ _ _ _, responseFrame_check _ _ _ _⟩

@[simp] theorem taken_window (status : Status) (echo : Byte) (data : List Byte) (s t : State) (w : WindowIdx) :
    (taken status echo data s t).window w = t.window w := rfl

/-! ### The generation list -/

theorem openEntry_last {v : Window} {older : List GenEntry} {e : GenEntry} (h : v.gens = older ++ [e])
    (he : e.state = .opened) (ho : ∀ o ∈ older, o.state ≠ .opened) : v.openEntry = some e := by
  have hn : older.find? (fun e => e.state == .opened) = none := by
    simp only [List.find?_eq_none, beq_iff_eq]
    exact ho
  simp [Window.openEntry, h, List.find?_append, hn, he]

theorem hasClosing_last {v : Window} {older : List GenEntry} {e : GenEntry} (h : v.gens = older ++ [e])
    (he : e.state = .opened) (ho : ∀ o ∈ older, o.state = .closed) : v.hasClosing = false := by
  simp only [Window.hasClosing, h, List.any_append, List.any_cons, List.any_nil, he, Bool.or_eq_false_iff, List.any_eq_false]
  exact ⟨fun o ho' => by simp [ho o ho'], by decide⟩

theorem mapOpen_last (f : GenEntry → GenEntry) {older : List GenEntry} {e : GenEntry} (he : e.state = .opened)
    (ho : ∀ o ∈ older, o.state ≠ .opened) : mapOpen f (older ++ [e]) = older ++ [f e] := by
  have h : older.map (fun e => if e.state = .opened then f e else e) = older := by
    conv_rhs => rw [← List.map_id older]
    apply List.map_congr_left
    intro o ho'
    simp [ho o ho']
  simp [mapOpen, he, h]

theorem mapNumber_at (n : Nat) (f : GenEntry → GenEntry) {before after : List GenEntry} {m : GenEntry} (hm : m.number = n)
    (hb : ∀ e ∈ before, e.number ≠ n) (ha : ∀ e ∈ after, e.number ≠ n) :
    mapNumber n f (before ++ m :: after) = before ++ f m :: after := by
  have h : ∀ l : List GenEntry, (∀ e ∈ l, e.number ≠ n) → l.map (fun e => if e.number = n then f e else e) = l := by
    intro l hl
    conv_rhs => rw [← List.map_id l]
    apply List.map_congr_left
    intro o ho'
    simp [hl o ho']
  simp [mapNumber, hm, h before hb, h after ha]

theorem recordSum_append (a b : List GenEntry) : recordSum (a ++ b) = recordSum a + recordSum b := by
  simp [recordSum]

/-- The list splits at the target into what is older and the rest (R54). -/
theorem olderThan_append_fromTarget (g : Nat) (gens : List GenEntry) : olderThan g gens ++ fromTarget g gens = gens :=
  List.takeWhile_append_dropWhile

theorem olderThan_at {g : Nat} {older newer : List GenEntry} {m : GenEntry} (hm : m.number = g)
    (ho : ∀ e ∈ older, e.number ≠ g) : olderThan g (older ++ m :: newer) = older := by
  have h : ∀ e ∈ older, (e.number != g) = true := fun e he => by simp [ho e he]
  simp only [olderThan]
  rw [List.takeWhile_append_of_pos h]
  simp [hm]

theorem fromTarget_at {g : Nat} {older newer : List GenEntry} {m : GenEntry} (hm : m.number = g)
    (ho : ∀ e ∈ older, e.number ≠ g) : fromTarget g (older ++ m :: newer) = m :: newer := by
  have h : ∀ e ∈ older, (e.number != g) = true := fun e he => by simp [ho e he]
  simp only [fromTarget]
  rw [List.dropWhile_append_of_pos h]
  simp [hm]

/-! ### Releases and the depth rule (R14, R15, R60) -/

/-- What a release leaves in its window. -/
theorem releaseOldest_window (w : WindowIdx) (cause : ReleaseCause) (s : State) {m : GenEntry} {rest : List GenEntry}
    (h : (s.window w).gens = m :: rest) :
    (releaseOldest w cause s).window w = { s.window w with
      gens := rest
      ring := (s.window w).ring.released (s.window w).capacity (s.window w).highThreshold m.recordCount } := by
  simp only [releaseOldest, h]
  split <;> simp

theorem depthLoop_within (w : WindowIdx) (n : Nat) (s : State) (h : (s.window w).gens.length ≤ (s.window w).depth) :
    depthLoop w n s = s := by
  cases n with
  | zero => rfl
  | succ n =>
    have h' : ¬ ((s.window w).depth < (s.window w).gens.length ∧ (s.window w).oldestClosed = true) := by omega
    simp only [depthLoop, h', if_false]

/-- The depth rule leaves a list within its depth alone. -/
theorem depthRule_within (w : WindowIdx) (s : State) (h : (s.window w).gens.length ≤ (s.window w).depth) :
    depthRule w s = s := depthLoop_within w _ s h

/-- One entry too many, the oldest CLOSED: the depth rule is one release. -/
theorem depthRule_one (w : WindowIdx) (s : State) {m : GenEntry} {rest : List GenEntry} (h : (s.window w).gens = m :: rest)
    (hm : m.state = .closed) (hd : rest.length = (s.window w).depth) : depthRule w s = releaseOldest w .depth s := by
  have h1 : (s.window w).depth < (s.window w).gens.length ∧ (s.window w).oldestClosed = true := by
    refine ⟨?_, ?_⟩
    · rw [h, List.length_cons]; omega
    · simp [Window.oldestClosed, h, hm]
  have h2 : depthRule w s = depthLoop w rest.length (releaseOldest w .depth s) := by
    unfold depthRule
    rw [show (s.window w).gens.length = rest.length + 1 by simp [h]]
    simp only [depthLoop, h1, and_self, if_true]
  rw [h2]
  apply depthLoop_within
  rw [releaseOldest_window w _ s h]
  simp [hd]

/-- RECLAIM makes no release while the ring has room. -/
theorem reclaimLoop_of_room (w : WindowIdx) (n : Nat) (s : State) (h : (s.window w).ringIsFull = false) :
    reclaimLoop w n s = s := by
  cases n with
  | zero => rfl
  | succ n => simp [reclaimLoop, h]

/-- RECLAIM makes no release while the oldest generation is not CLOSED. -/
theorem reclaimLoop_of_unclosed (w : WindowIdx) (n : Nat) (s : State) (h : (s.window w).oldestClosed = false) :
    reclaimLoop w n s = s := by
  cases n with
  | zero => rfl
  | succ n => simp [reclaimLoop, h]

/-! ### The filter and the policy of a placement -/

theorem makeRoom_of_policy (w : WindowIdx) (s : State) (h : (s.window w).policy ≠ .reclaim) : makeRoom w s = s := by
  simp [makeRoom, h]

theorem makeRoom_of_room (w : WindowIdx) (s : State) (h : (s.window w).ringIsFull = false) : makeRoom w s = s := by
  unfold makeRoom
  split
  · exact reclaimLoop_of_room w _ s h
  · rfl

end Sys2Proof.Machine
end

