-- ==== Sys2Proof/Laws/Frames.lean ====
section
/-! SUPPORT. What the operations of one window touch: that window, the event queue and the re-examination trigger. -/

namespace Sys2Proof.Machine

open Sys2Proof

/-- From `s` to `t` only the window `w`, the event queue with its serial and lost flag, and the trigger for re-examination have
changed. -/
structure StaysIn (w : WindowIdx) (s t : State) : Prop where
  rest : t = { s with windows := t.windows, events := t.events, serial := t.serial, lost := t.lost, reexamDue := t.reexamDue }
  others : ∀ u, u ≠ w → t.window u = s.window u

theorem StaysIn.refl (w : WindowIdx) (s : State) : StaysIn w s s := ⟨rfl, fun _ _ => rfl⟩

theorem StaysIn.trans {w : WindowIdx} {s t u : State} (h : StaysIn w s t) (k : StaysIn w t u) : StaysIn w s u := by
  refine ⟨?_, fun x hx => (k.others x hx).trans (h.others x hx)⟩
  rw [k.rest, h.rest]

theorem staysIn_setWindow (w : WindowIdx) (s : State) (v : Window) : StaysIn w s (s.setWindow w v) :=
  ⟨rfl, fun _ h => window_setWindow_ne s v h⟩

theorem staysIn_modWindow (w : WindowIdx) (s : State) (f : Window → Window) : StaysIn w s (s.modWindow w f) :=
  staysIn_setWindow w s _

theorem staysIn_emit (w : WindowIdx) (b : EventBody) (s : State) : StaysIn w s (emit b s) := ⟨rfl, fun _ _ => rfl⟩

theorem staysIn_raiseTrigger (w : WindowIdx) (s : State) : StaysIn w s (raiseTrigger s) := ⟨rfl, fun _ _ => rfl⟩

theorem staysIn_releaseOldest (w : WindowIdx) (cause : ReleaseCause) (s : State) : StaysIn w s (releaseOldest w cause s) := by
  unfold releaseOldest
  split
  · exact .refl w s
  · split
    · exact (staysIn_setWindow w s _).trans (staysIn_emit w _ _)
    · exact ((staysIn_setWindow w s _).trans (staysIn_emit w _ _)).trans (staysIn_raiseTrigger w _)

theorem staysIn_depthLoop (w : WindowIdx) (n : Nat) (s : State) : StaysIn w s (depthLoop w n s) := by
  induction n generalizing s with
  | zero => exact .refl w s
  | succ n ih =>
    unfold depthLoop
    split
    · exact (staysIn_releaseOldest w _ s).trans (ih _)
    · exact .refl w s

theorem staysIn_depthRule (w : WindowIdx) (s : State) : StaysIn w s (depthRule w s) := staysIn_depthLoop w _ s

theorem staysIn_reclaimLoop (w : WindowIdx) (n : Nat) (s : State) : StaysIn w s (reclaimLoop w n s) := by
  induction n generalizing s with
  | zero => exact .refl w s
  | succ n ih =>
    unfold reclaimLoop
    split
    · exact (staysIn_releaseOldest w _ s).trans (ih _)
    · exact .refl w s

theorem staysIn_makeRoom (w : WindowIdx) (s : State) : StaysIn w s (makeRoom w s) := by
  unfold makeRoom
  split
  · exact staysIn_reclaimLoop w _ s
  · exact .refl w s

theorem staysIn_reserve (w : WindowIdx) (s : State) : StaysIn w s (reserve w s) := by
  unfold reserve
  simp only
  split
  · exact (staysIn_setWindow w s _).trans (staysIn_emit w _ _)
  · exact staysIn_setWindow w s _

theorem staysIn_turnedAway (w : WindowIdx) (q : Requester) (l : Line) (s : State) : StaysIn w s (turnedAway w q l s) := by
  unfold turnedAway
  simp only
  split
  · exact .refl w s
  · exact (staysIn_setWindow w s _).trans (staysIn_emit w _ _)

theorem staysIn_reportPlacement (w : WindowIdx) (c : ReqClass) (s : State) : StaysIn w s (reportPlacement w c s) :=
  staysIn_modWindow w s _

theorem staysIn_closeGeneration (w : WindowIdx) (k : CloseCause) (s : State) : StaysIn w s (closeGeneration w k s) := by
  unfold closeGeneration
  simp only
  split
  · split
    · exact ((staysIn_setWindow w s _).trans (staysIn_emit w _ _)).trans (staysIn_depthRule w _)
    · exact (staysIn_setWindow w s _).trans (staysIn_depthRule w _)
  · exact (staysIn_setWindow w s _).trans (staysIn_depthRule w _)

theorem staysIn_quietClose (w : WindowIdx) (s : State) : StaysIn w s (quietClose w s) := by
  unfold quietClose
  simp only
  split
  · exact (staysIn_setWindow w s _).trans (staysIn_emit w _ _)
  · exact staysIn_closeGeneration w _ s

theorem staysIn_quietExpiry (w : WindowIdx) (s : State) : StaysIn w s (quietExpiry w s) := by
  unfold quietExpiry
  simp only
  split
  · exact (staysIn_setWindow w s _).trans (staysIn_emit w _ _)
  · split
    · exact staysIn_setWindow w s _
    · exact staysIn_quietClose w s

theorem staysIn_disarmCompletion (w : WindowIdx) (s : State) : StaysIn w s (disarmCompletion w s) :=
  ((staysIn_setWindow w s _).trans (staysIn_emit w _ _)).trans (staysIn_raiseTrigger w _)

theorem staysIn_generationClosed (w : WindowIdx) (m : GenEntry) (s : State) : StaysIn w s (generationClosed w m s) := by
  unfold generationClosed
  simp only
  have h2 := (staysIn_setWindow w s { s.window w with
    gens := mapNumber m.number (fun e => { e with state := .closed }) (s.window w).gens }).trans
    (staysIn_emit w { kind := .genClosed, window := some w, generation := some m.number,
                      cause := m.closeCause.map Cause.close } _)
  split <;> split
  · exact ((h2.trans (staysIn_depthRule w _)).trans (staysIn_modWindow w _ _)).trans (staysIn_quietClose w _)
  · exact (h2.trans (staysIn_modWindow w _ _)).trans (staysIn_quietClose w _)
  · exact h2.trans (staysIn_depthRule w _)
  · exact h2

theorem staysIn_generationSlotFreed (w : WindowIdx) (g : Nat) (s : State) : StaysIn w s (generationSlotFreed w g s) := by
  unfold generationSlotFreed
  simp only
  split
  · split
    · exact (staysIn_modWindow w s _).trans (staysIn_generationClosed w _ _)
    · exact staysIn_modWindow w s _
  · exact staysIn_modWindow w s _

/-- The freeing of a slot, said once: the slot is free, and the rest stays in the slot's window (R41). -/
theorem freeSlotAt_staysIn (k : SlotIdx) (s : State) {sl : Slot} (h : s.slot k = some sl) :
    StaysIn sl.window (s.setSlot k none) (freeSlotAt k s) := by
  unfold freeSlotAt
  simp only [h]
  split
  · exact ((staysIn_generationSlotFreed _ _ _).trans (staysIn_disarmCompletion _ _)).trans (staysIn_raiseTrigger _ _)
  · exact (staysIn_generationSlotFreed _ _ _).trans (staysIn_raiseTrigger _ _)

theorem freeSlotAt_of_free (k : SlotIdx) (s : State) (h : s.slot k = none) : freeSlotAt k s = s := by
  simp [freeSlotAt, h]

theorem staysIn_modContext (w : WindowIdx) (f : RewindContext → RewindContext) (s : State) : StaysIn w s (modContext w f s) :=
  staysIn_modWindow w s _

theorem staysIn_pauseTakesEffect (w : WindowIdx) (s : State) : StaysIn w s (pauseTakesEffect w s) := by
  unfold pauseTakesEffect
  simp only
  split
  · exact .refl w s
  · exact ((staysIn_setWindow w s _).trans (staysIn_emit w _ _)).trans (staysIn_raiseTrigger w _)

theorem staysIn_completeRewind (w : WindowIdx) (s : State) : StaysIn w s (completeRewind w s) := by
  unfold completeRewind
  simp only
  split
  · exact .refl w s
  · split
    · exact .refl w s
    · exact ((((staysIn_setWindow w s _).trans (staysIn_depthRule w _)).trans (staysIn_modWindow w _ _)).trans
        (staysIn_emit w _ _)).trans (staysIn_raiseTrigger w _)

theorem staysIn_finishRecord (w : WindowIdx) (c : RewindContext) (r : RecordInHand) (s : State) :
    StaysIn w s (finishRecord w c r s) := by
  unfold finishRecord
  simp only
  split
  · exact staysIn_modContext w _ s
  · split
    · exact (staysIn_modContext w _ s).trans (staysIn_completeRewind w _)
    · split
      · exact (staysIn_modContext w _ s).trans (staysIn_pauseTakesEffect w _)
      · exact ((staysIn_modContext w _ s).trans (staysIn_modContext w _ _)).trans (staysIn_modContext w _ _)

end Sys2Proof.Machine
end

