-- ==== Sys2Proof/Laws/Passes.lean ====
section
/-! SUPPORT. What one decision of the admission unit can change, and the passes of a re-examination said once. -/

namespace Sys2Proof.Machine

open Sys2Proof

/-! ### One decision (R115) -/

/-- From `s` to `t` nothing has changed but what a placement decision can change: the windows, the event queue with its serial
and lost flag, the trigger for re-examination, the slots, the two queues of the memory port, the admitted requests and the
responses. -/
def Decides (s t : State) : Prop :=
  t = { s with
    windows := t.windows, events := t.events, serial := t.serial, lost := t.lost, reexamDue := t.reexamDue
    slots := t.slots, forwardQ := t.forwardQ, captureQ := t.captureQ, admitted := t.admitted, responses := t.responses }

theorem Decides.refl (s : State) : Decides s s := rfl

theorem Decides.trans {s t u : State} (h : Decides s t) (k : Decides t u) : Decides s u := by
  unfold Decides at *
  rw [k, h]

theorem StaysIn.decides {w : WindowIdx} {s t : State} (h : StaysIn w s t) : Decides s t := by
  unfold Decides
  rw [h.rest]

theorem decides_answerFault (r : SysRequest) (s : State) : Decides s (answerFault r s) := rfl

theorem decides_forward (r : SysRequest) (s : State) : Decides s (forward r s) := rfl

theorem decides_emit (b : EventBody) (s : State) : Decides s (emit b s) := rfl

theorem decides_placeCapture (k : SlotIdx) (w : WindowIdx) (c : ReqClass) (r : SysRequest) (s : State) :
    Decides s (placeCapture k w c r s) :=
  (staysIn_reserve w s).decides.trans rfl

theorem decides_ringFullOutcome (w : WindowIdx) (r : SysRequest) (s : State) : Decides s (ringFullOutcome w r s).2 := by
  have h := (staysIn_turnedAway w r.requester r.line s).decides
  unfold ringFullOutcome
  simp only
  split
  · exact h
  · exact h.trans (decides_answerFault r _)
  · exact h.trans (decides_answerFault r _)

theorem decides_captureSetUp (w : WindowIdx) (c : ReqClass) (r : SysRequest) (s : State) :
    Decides s (captureSetUp w c r s).2 := by
  unfold captureSetUp
  split
  · exact .refl s
  · simp only
    split
    · exact (staysIn_makeRoom w s).decides.trans (decides_ringFullOutcome w r _)
    · exact (staysIn_makeRoom w s).decides.trans (decides_placeCapture _ w c r _)

theorem decides_placeOpen (older : List ParkEntry) (armed : Option (WindowIdx × ReqClass)) (r : SysRequest) (s : State) :
    Decides s (placeOpen older armed r s).2 := by
  unfold placeOpen
  split
  · exact .refl s
  · split
    · exact decides_forward r s
    · unfold placeArmed
      split
      · split
        · exact (decides_forward r s).trans (staysIn_reportPlacement _ _ _).decides
        · exact decides_captureSetUp _ _ r s
      · exact decides_forward r s

theorem decides_fenced (w : WindowIdx) (r : SysRequest) (s : State) : Decides s (fenced w r s).2 := by
  unfold fenced
  split
  · exact .refl s
  · exact decides_answerFault r s

theorem decides_placementDecision (older : List ParkEntry) (place : Option (WindowIdx × ReqClass)) (r : SysRequest)
    (s : State) : Decides s (placementDecision older place r s).2 := by
  unfold placementDecision
  split
  · exact decides_placeOpen _ _ r s
  · split
    · exact decides_answerFault r s
    · exact decides_fenced _ r s
    · exact decides_fenced _ r s
    all_goals exact decides_placeOpen _ _ r s

/-- The decision of an arrival, said once. -/
theorem decides_decideFresh (older : List ParkEntry) (r : SysRequest) (s : State) : Decides s (decideFresh older r s).2.2 := by
  unfold decideFresh
  split
  · exact (decides_answerFault r s).trans (decides_emit _ _)
  · exact (decides_answerFault r s).trans (decides_emit _ _)
  · exact decides_placementDecision _ _ r s
  · exact decides_placementDecision _ _ r s

/-- The decision of a park-list entry, said once. -/
theorem decides_decideParked (older : List ParkEntry) (e : ParkEntry) (s : State) :
    Decides s (decideParked older e s).2.2 := by
  unfold decideParked
  split
  · exact decides_decideFresh _ _ s
  · exact decides_placementDecision _ _ _ s

/-! ### Passes (R120, R194) -/

theorem settleWithin_of_not_owed {s : State} (h : passOwed s = false) (n : Nat) : settleWithin n s = s := by
  cases n <;> simp [settleWithin, h]

/-- With no pass owed there is nothing to make. -/
theorem settle_of_not_owed {s : State} (h : passOwed s = false) : settle s = s := settleWithin_of_not_owed h _

theorem beginPass_of_none {s : State} (h : s.pass = none) : beginPass s = { s with pass := some 0, reexamDue := false } := by
  simp [beginPass, h]

theorem beginPass_of_some {s : State} {n : Nat} (h : s.pass = some n) : beginPass s = s := by simp [beginPass, h]

/-- The decision of an entry that a pass in progress has not reached. -/
theorem passStep_of_entry {s : State} {n : Nat} {e : ParkEntry} (h : s.pass = some n) (he : s.park[n]? = some e) :
    passStep s = decideEntry n e s := by
  simp [passStep, beginPass_of_some h, h, he]

/-- The end of a pass: the waiting arrival is decided. -/
theorem passStep_of_end {s : State} (h : s.pass = some s.park.length) : passStep s = decideWaiting { s with pass := none } := by
  simp [passStep, beginPass_of_some h, h]

/-- The first decision of a pass is the first decision of the pass just begun. -/
theorem passStep_beginPass (s : State) : passStep (beginPass s) = passStep s := by
  have h : beginPass (beginPass s) = beginPass s := by
    cases hp : s.pass with
    | none => rw [beginPass_of_none hp]; rfl
    | some n => rw [beginPass_of_some hp, beginPass_of_some hp]
  simp only [passStep, h]

/-- A decision of an entry leaves one decision fewer in the pass, which goes on. -/
theorem decisionsLeft_decideEntry {s : State} {n : Nat} {e : ParkEntry} (h : s.pass = some n) (he : s.park[n]? = some e) :
    (decideEntry n e s).pass.isSome = true ∧ decisionsLeft (decideEntry n e s) + 1 = decisionsLeft s := by
  have hn : n < s.park.length := by
    by_contra hc
    rw [List.getElem?_eq_none (Nat.not_lt.mp hc)] at he
    exact nomatch he
  have hd := decides_decideParked (s.park.take n) e s
  unfold decideEntry
  split
  · rename_i s1 hv
    rw [hv] at hd
    have hp : s1.pass = some n := (congrArg State.pass hd).trans h
    simp [decisionsLeft, hp, h, List.length_eraseIdx, hn]
    omega
  · simp [decisionsLeft, h]
    omega

/-- A pass that is not at its end: it is finished by its next decision and the rest. -/
theorem finishPass_of_entry {s : State} {n : Nat} {e : ParkEntry} (h : s.pass = some n) (he : s.park[n]? = some e) :
    finishPass s = finishPass (decideEntry n e s) := by
  have hd := (decisionsLeft_decideEntry h he).2
  simp only [finishPass]
  rw [← hd, passSteps, passStep_of_entry h he]

/-- A pass at its end is finished by the decision of the waiting arrival. -/
theorem finishPass_of_end {s : State} (h : s.pass = some s.park.length) :
    finishPass s = decideWaiting { s with pass := none } := by
  have hd : decisionsLeft s = 1 := by simp [decisionsLeft, h]
  simp only [finishPass, hd, passSteps, passStep_of_end h]

/-- A pass is finished from its beginning. -/
theorem finishPass_beginPass (s : State) : finishPass (beginPass s) = finishPass s := by
  have hd : decisionsLeft (beginPass s) = decisionsLeft s := by
    cases hp : s.pass with
    | none => rw [beginPass_of_none hp]; simp [decisionsLeft, hp]
    | some n => rw [beginPass_of_some hp]
  have hs : ∀ n, passSteps (n + 1) (beginPass s) = passSteps (n + 1) s := fun n => by
    simp only [passSteps, passStep_beginPass]
  simp only [finishPass, hd]
  exact hs _

/-! ### The passes come to an end (R58, R59, R194) -/

/-- The entries of all generation lists. -/
def entriesListed (s : State) : Nat := (s.windows.toList.map (fun v => v.gens.length)).sum

theorem sum_map_set {α : Type} (f : α → Nat) (l : List α) (i : Nat) (h : i < l.length) (v : α) :
    ((l.set i v).map f).sum + f l[i] = (l.map f).sum + f v := by
  induction l generalizing i with
  | nil => exact absurd h (Nat.not_lt_zero i)
  | cons a l ih =>
    cases i with
    | zero => simp; omega
    | succ i =>
      have := ih i (by simpa using h)
      simp only [List.set_cons_succ, List.map_cons, List.sum_cons, List.getElem_cons_succ]
      omega

theorem entriesListed_setWindow (s : State) (w : WindowIdx) (v : Window) :
    entriesListed (s.setWindow w v) + (s.window w).gens.length = entriesListed s + v.gens.length := by
  have h := sum_map_set (fun v : Window => v.gens.length) s.windows.toList w.val (by simp) v
  simpa [entriesListed, State.setWindow, State.window, Vector.toList_set, List.map_set] using h

/-- From `s` to `t` no generation list has grown, and a trigger raised on the way has cost an entry of one (R58, R59). -/
def TriggerCosts (s t : State) : Prop :=
  entriesListed t ≤ entriesListed s ∧ (t.reexamDue = true → s.reexamDue = true ∨ entriesListed t < entriesListed s)

theorem TriggerCosts.of_eq {s t : State} (h : t.windows = s.windows) (k : t.reexamDue = s.reexamDue) : TriggerCosts s t := by
  have : entriesListed t = entriesListed s := by simp only [entriesListed, h]
  exact ⟨this.le, fun ht => .inl (k ▸ ht)⟩

theorem TriggerCosts.refl (s : State) : TriggerCosts s s := .of_eq rfl rfl

theorem TriggerCosts.trans {s t u : State} (h : TriggerCosts s t) (k : TriggerCosts t u) : TriggerCosts s u := by
  refine ⟨k.1.trans h.1, fun hu => ?_⟩
  rcases k.2 hu with ht | hlt
  · exact (h.2 ht).imp_right (fun hlt => lt_of_le_of_lt k.1 hlt)
  · exact .inr (lt_of_lt_of_le hlt h.1)

theorem triggerCosts_setWindow {s : State} {w : WindowIdx} {v : Window} (h : v.gens.length = (s.window w).gens.length) :
    TriggerCosts s (s.setWindow w v) := by
  have e := entriesListed_setWindow s w v
  exact ⟨by omega, fun ht => .inl ht⟩

theorem triggerCosts_emit (b : EventBody) (s : State) : TriggerCosts s (emit b s) := by
  refine .of_eq ?_ ?_ <;> (unfold emit; split <;> rfl)

theorem triggerCosts_answer (q : Requester) (g : Tag) (st : SysStatus) (d : Option LineData) (s : State) :
    TriggerCosts s (answer q g st d s) := by
  refine .of_eq ?_ ?_ <;> (unfold answer; split <;> rfl)

theorem triggerCosts_releaseOldest (w : WindowIdx) (cause : ReleaseCause) (s : State) :
    TriggerCosts s (releaseOldest w cause s) := by
  unfold releaseOldest
  split
  · exact .refl s
  · rename_i m rest hg
    have hlt : ∀ v : Window, v.gens = rest → entriesListed (s.setWindow w v) < entriesListed s := fun v hv => by
      have e := entriesListed_setWindow s w v
      rw [hv, hg, List.length_cons] at e
      omega
    have hl : ∀ (b : EventBody) (v : Window), v.gens = rest → entriesListed (emit b (s.setWindow w v)) < entriesListed s :=
      fun b v hv => lt_of_le_of_lt (triggerCosts_emit b _).1 (hlt v hv)
    have hr : ∀ t, entriesListed (raiseTrigger t) = entriesListed t := fun _ => rfl
    have hc : ∀ t, entriesListed t < entriesListed s → TriggerCosts s t := fun t h => ⟨h.le, fun _ => .inr h⟩
    simp only
    split
    · exact hc _ (hl _ _ rfl)
    · refine hc _ ?_
      rw [hr]
      exact hl _ _ rfl

theorem triggerCosts_reclaimLoop (w : WindowIdx) (n : Nat) (s : State) : TriggerCosts s (reclaimLoop w n s) := by
  induction n generalizing s with
  | zero => exact .refl s
  | succ n ih =>
    unfold reclaimLoop
    split
    · exact (triggerCosts_releaseOldest w _ s).trans (ih _)
    · exact .refl s

theorem triggerCosts_makeRoom (w : WindowIdx) (s : State) : TriggerCosts s (makeRoom w s) := by
  unfold makeRoom
  split
  · exact triggerCosts_reclaimLoop w _ s
  · exact .refl s

theorem triggerCosts_turnedAway (w : WindowIdx) (q : Requester) (l : Line) (s : State) :
    TriggerCosts s (turnedAway w q l s) := by
  unfold turnedAway
  simp only
  split
  · exact .refl s
  · exact (triggerCosts_setWindow (by rfl)).trans (triggerCosts_emit _ _)

theorem triggerCosts_reportPlacement (w : WindowIdx) (c : ReqClass) (s : State) :
    TriggerCosts s (reportPlacement w c s) := triggerCosts_setWindow (by rfl)

theorem triggerCosts_reserve (w : WindowIdx) (s : State) : TriggerCosts s (reserve w s) := by
  have h : TriggerCosts s (s.setWindow w { s.window w with
      ring := (s.window w).ring.reserved (s.window w).capacity (s.window w).highThreshold
      gens := mapOpen (GenEntry.addRecord (s.window w).ring.nextSeq) (s.window w).gens }) :=
    triggerCosts_setWindow (by simp [mapOpen])
  unfold reserve
  simp only
  split
  · exact h.trans (triggerCosts_emit _ _)
  · exact h

theorem triggerCosts_placeCapture (k : SlotIdx) (w : WindowIdx) (c : ReqClass) (r : SysRequest) (s : State) :
    TriggerCosts s (placeCapture k w c r s) := by
  unfold placeCapture
  simp only
  refine (triggerCosts_reserve w s).trans (TriggerCosts.trans ?_ (triggerCosts_reportPlacement w c _))
  exact (TriggerCosts.of_eq (t := (reserve w s).setSlot k (some (slotFor w (s.window w) r))) rfl rfl).trans
    ((triggerCosts_setWindow (by simp [mapOpen])).trans (.of_eq rfl rfl))

theorem triggerCosts_ringFullOutcome (w : WindowIdx) (r : SysRequest) (s : State) :
    TriggerCosts s (ringFullOutcome w r s).2 := by
  have h := triggerCosts_turnedAway w r.requester r.line s
  unfold ringFullOutcome
  simp only
  split
  · exact h
  · exact h.trans (triggerCosts_answer ..)
  · exact h.trans (triggerCosts_answer ..)

theorem triggerCosts_captureSetUp (w : WindowIdx) (c : ReqClass) (r : SysRequest) (s : State) :
    TriggerCosts s (captureSetUp w c r s).2 := by
  unfold captureSetUp
  split
  · exact .refl s
  · simp only
    split
    · exact (triggerCosts_makeRoom w s).trans (triggerCosts_ringFullOutcome w r _)
    · exact (triggerCosts_makeRoom w s).trans (triggerCosts_placeCapture _ w c r _)

theorem triggerCosts_placementDecision (older : List ParkEntry) (place : Option (WindowIdx × ReqClass)) (r : SysRequest)
    (s : State) : TriggerCosts s (placementDecision older place r s).2 := by
  have hf : TriggerCosts s (forward r s) := .of_eq rfl rfl
  have ha : TriggerCosts s (answerFault r s) := triggerCosts_answer ..
  have ho : ∀ armed, TriggerCosts s (placeOpen older armed r s).2 := fun armed => by
    unfold placeOpen
    split
    · exact .refl s
    · split
      · exact hf
      · unfold placeArmed
        split
        · split
          · exact hf.trans (triggerCosts_reportPlacement _ _ _)
          · exact triggerCosts_captureSetUp _ _ r s
        · exact hf
  have hx : ∀ w, TriggerCosts s (fenced w r s).2 := fun w => by
    unfold fenced
    split
    · exact .refl s
    · exact ha
  unfold placementDecision
  split
  · exact ho _
  · split
    · exact ha
    · exact hx _
    · exact hx _
    all_goals exact ho _

theorem triggerCosts_decideFresh (older : List ParkEntry) (r : SysRequest) (s : State) :
    TriggerCosts s (decideFresh older r s).2.2 := by
  have ha : TriggerCosts s (answerFault r s) := triggerCosts_answer ..
  unfold decideFresh
  split
  · exact ha.trans (triggerCosts_emit _ _)
  · exact ha.trans (triggerCosts_emit _ _)
  · exact triggerCosts_placementDecision _ _ r s
  · exact triggerCosts_placementDecision _ _ r s

theorem triggerCosts_decideEntry (n : Nat) (e : ParkEntry) (s : State) : TriggerCosts s (decideEntry n e s) := by
  have hd : TriggerCosts s (decideParked (s.park.take n) e s).2.2 := by
    unfold decideParked
    split
    · exact triggerCosts_decideFresh _ _ s
    · exact triggerCosts_placementDecision _ _ _ s
  unfold decideEntry
  split
  all_goals
    rename_i hv
    rw [hv] at hd
    exact hd.trans (.of_eq rfl rfl)

theorem triggerCosts_arrive (r : SysRequest) (s : State) : TriggerCosts s (arrive r s) := by
  unfold arrive
  split
  · exact (TriggerCosts.of_eq rfl rfl).trans (triggerCosts_emit _ _)
  · split
    · exact .of_eq rfl rfl
    · have hd := triggerCosts_decideFresh s.park r (takeIn r s)
      have ht : TriggerCosts s (takeIn r s) := .of_eq rfl rfl
      split
      · rename_i hv
        rw [hv] at hd
        exact ht.trans hd
      · rename_i hv
        rw [hv] at hd
        split
        · exact (ht.trans hd).trans (.of_eq rfl rfl)
        · exact .of_eq rfl rfl

/-- An arrival leaves the pass in progress as it was. -/
theorem arrive_pass (r : SysRequest) (s : State) : (arrive r s).pass = s.pass := by
  unfold arrive
  split
  · unfold emit
    split <;> rfl
  · split
    · rfl
    · have hd := congrArg State.pass (decides_decideFresh s.park r (takeIn r s))
      split
      · rename_i hv
        rw [hv] at hd
        exact hd
      · rename_i hv
        rw [hv] at hd
        split
        · exact hd
        · rfl

/-- A pass in progress is made to its end: none is in progress then, and a trigger left waiting has cost an entry. -/
theorem finishPass_ends (s : State) (n : Nat) (h : s.pass = some n) :
    (finishPass s).pass = none ∧ TriggerCosts s (finishPass s) := by
  have hend : ∀ s : State, s.pass.isSome = true → s.park[s.pass.getD 0]? = none →
      (passStep s).pass = none ∧ TriggerCosts s (passStep s) := fun s hp he => by
    obtain ⟨n, hn⟩ := Option.isSome_iff_exists.mp hp
    have e : passStep s = decideWaiting { s with pass := none } := by simp_all [passStep, beginPass]
    rw [e, decideWaiting]
    split
    · exact ⟨rfl, .of_eq rfl rfl⟩
    · exact ⟨arrive_pass _ _, (TriggerCosts.of_eq rfl rfl).trans (triggerCosts_arrive _ _)⟩
  have hrun : ∀ (m : Nat) (s : State) (n : Nat), s.pass = some n → s.park.length - n = m →
      (finishPass s).pass = none ∧ TriggerCosts s (finishPass s) := fun m => by
    induction m with
    | zero =>
      intro s n hn hm
      have hl : decisionsLeft s = 1 := by simp [decisionsLeft, hn, hm]
      simp only [finishPass, hl, passSteps]
      exact hend s (by simp [hn]) (by simp [hn]; omega)
    | succ m ih =>
      intro s n hn hm
      have hlt : n < s.park.length := by omega
      have he : s.park[n]? = some s.park[n] := List.getElem?_eq_getElem hlt
      have hd := decisionsLeft_decideEntry hn he
      obtain ⟨n', hn'⟩ := Option.isSome_iff_exists.mp hd.1
      have hm' : (decideEntry n s.park[n] s).park.length - n' = m := by
        have := hd.2
        simp only [decisionsLeft, hn, hn', Option.getD_some] at this
        omega
      rw [finishPass_of_entry hn he]
      have hi := ih _ n' hn' hm'
      exact ⟨hi.1, (triggerCosts_decideEntry n _ s).trans hi.2⟩
  exact hrun _ s n h rfl

/-- Once the passes owed are made none is owed. -/
theorem settle_settles (s : State) : passOwed (settle s) = false := by
  have hend : ∀ s : State, passOwed s = true →
      (finishPass s).pass = none ∧ entriesListed (finishPass s) ≤ entriesListed s ∧
        ((finishPass s).reexamDue = true →
          s.pass.isSome = true ∧ s.reexamDue = true ∨ entriesListed (finishPass s) < entriesListed s) := fun s h => by
    cases hp : s.pass with
    | some n =>
      have hf := finishPass_ends s n hp
      exact ⟨hf.1, hf.2.1, fun hd => (hf.2.2 hd).imp_left (fun hr => ⟨rfl, hr⟩)⟩
    | none =>
      have hf := finishPass_ends (beginPass s) 0 (by rw [beginPass_of_none hp])
      rw [finishPass_beginPass] at hf
      have he : entriesListed (beginPass s) = entriesListed s := by rw [beginPass_of_none hp]; rfl
      refine ⟨hf.1, he ▸ hf.2.1, fun hd => .inr ?_⟩
      rcases hf.2.2 hd with hr | hr
      · rw [beginPass_of_none hp] at hr
        exact nomatch hr
      · exact he ▸ hr
  have hone : ∀ (n : Nat) (s : State), s.pass = none → entriesListed s < n → passOwed (settleWithin n s) = false :=
    fun n => by
      induction n with
      | zero => intro s _ h; exact absurd h (Nat.not_lt_zero _)
      | succ n ih =>
        intro s hp h
        unfold settleWithin
        split
        · rename_i ho
          have hf := hend s ho
          by_cases hd : (finishPass s).reexamDue = true
          · refine ih _ hf.1 ?_
            rcases hf.2.2 hd with hr | hr
            · rw [hp] at hr; exact nomatch hr.1
            · omega
          · have hno : passOwed (finishPass s) = false := by simp [passOwed, hf.1, hd]
            rw [settleWithin_of_not_owed hno]
            exact hno
        · rename_i ho
          simpa using ho
  show passOwed (settleWithin (entriesListed s + 2) s) = false
  unfold settleWithin
  split
  · rename_i ho
    exact hone _ _ (hend s ho).1 (Nat.lt_succ_of_le (hend s ho).2.1)
  · rename_i ho
    simpa using ho

/-- The passes owed are some number of passes, one after the other. -/
theorem settle_is_passes (s : State) : ∃ n, settle s = finishPass^[n] s := by
  have h : ∀ (n : Nat) (s : State), ∃ m, settleWithin n s = finishPass^[m] s := fun n => by
    induction n with
    | zero => exact fun s => ⟨0, rfl⟩
    | succ n ih =>
      intro s
      unfold settleWithin
      split
      · obtain ⟨m, hm⟩ := ih (finishPass s)
        exact ⟨m + 1, by rw [hm, Function.iterate_succ_apply]⟩
      · exact ⟨0, rfl⟩
  exact h _ s

end Sys2Proof.Machine
end

