-- ==== Sys2Proof/Laws/Admission.lean ====
section
/-! SUPPORT. The admission unit, said once: where a request is classified, when a line is free, which slot and which table entry
are taken, what an arrival and a memory response come to. -/

namespace Sys2Proof.Machine

open Sys2Proof

/-! ### Classification (R108 to R110) -/

theorem ringAreaOf_of_inNoRing {s : State} {l : Line} (h : inNoRing s l) : ringAreaOf s l = none := by
  simp only [ringAreaOf, List.find?_eq_none]
  intro u _
  simp only [Bool.and_eq_true, bne_iff_ne, ne_eq, not_and, Bool.not_eq_true]
  exact h u

theorem ringAreaOf_of_not_inNoRing {s : State} {l : Line} (h : ¬inNoRing s l) : ∃ u, ringAreaOf s l = some u := by
  rw [← Option.isSome_iff_exists, ringAreaOf, List.find?_isSome]
  by_contra hc
  apply h
  intro u hu
  by_contra hd
  exact hc ⟨u, List.mem_finRange u, by simpa [hu] using hd⟩

theorem windowAt_of_liesIn {s : State} {w : WindowIdx} {l : Line} (h : LiesIn s w l) : windowAt s l = some w := by
  have hw : ((s.window w).state != .unused && (s.window w).covers l) = true := by simp [h.live, h.inside]
  have hex : (windowAt s l).isSome := by
    rw [windowAt, List.find?_isSome]
    exact ⟨w, List.mem_finRange w, hw⟩
  obtain ⟨u, hu⟩ := Option.isSome_iff_exists.mp hex
  have hp := List.find?_some hu
  simp only [Bool.and_eq_true, bne_iff_ne, ne_eq] at hp
  by_cases e : u = w
  · rw [← e]; exact hu
  · exact absurd hp.2 (by simp [h.alone u e hp.1])

theorem windowAt_of_none {s : State} {l : Line} (h : ∀ u, (s.window u).state ≠ .unused → (s.window u).covers l = false) :
    windowAt s l = none := by
  simp only [windowAt, List.find?_eq_none]
  intro u _
  simp only [Bool.and_eq_true, bne_iff_ne, ne_eq, not_and, Bool.not_eq_true]
  exact h u

/-- A request whose line lies in one window is that window's, or a denied write. -/
theorem classify_liesIn {s : State} {w : WindowIdx} {r : SysRequest} (h : LiesIn s w r.line) :
    classify s r =
      if r.op.isWrite && (s.window w).classOf r.requester == .readOnly then .denied w
      else .tracked w ((s.window w).classOf r.requester) := by
  simp only [classify, ringAreaOf_of_inNoRing h.noRing, windowAt_of_liesIn h]

/-- A request outside every window and ring area, and a read of a ring area, are untracked. -/
theorem classify_untracked {s : State} {r : SysRequest}
    (h : (r.op = .read ∧ ¬inNoRing s r.line) ∨
      (inNoRing s r.line ∧ ∀ u, (s.window u).state ≠ .unused → (s.window u).covers r.line = false)) :
    classify s r = .untracked := by
  rcases h with ⟨h1, h2⟩ | ⟨h1, h2⟩
  · obtain ⟨u, hu⟩ := ringAreaOf_of_not_inNoRing h2
    simp [classify, hu, h1, MemOp.isWrite]
  · simp only [classify, ringAreaOf_of_inNoRing h1, windowAt_of_none h2]

theorem lineFree_iff (s : State) (l : Line) : lineFree s l ↔ lineBusy s.park s l = false := by
  simp [lineFree, lineBusy]

/-! ### Slots and entries (R30, R129) -/

/-- The lowest index that a test accepts is what the search over all indexes finds. -/
theorem find_finRange_lowest {n : Nat} (p : Fin n → Bool) (k : Fin n) (hk : p k = true) (hl : ∀ j, j < k → p j = false) :
    (List.finRange n).find? p = some k := by
  rw [List.find?_eq_some_iff_getElem]
  refine ⟨hk, k.val, by simp, by simp, fun j hj => ?_⟩
  have h := hl ⟨j, lt_trans hj k.isLt⟩ hj
  simp [h]

theorem freeSlot_of_lowest {s : State} {k : SlotIdx} (h : LowestFree s k) : s.freeSlot = some k := by
  refine find_finRange_lowest _ k (by simp [h.1]) (fun j hj => ?_)
  cases e : s.slot j with
  | none => exact absurd e (h.2 j hj)
  | some v => rfl

theorem freeSlot_of_full {s : State} (h : ∀ k, s.slot k ≠ none) : s.freeSlot = none := by
  simp only [State.freeSlot, List.find?_eq_none]
  intro k _
  simpa using h k

theorem freeEntry_of_lowest {s : State} {k : Ticket} (h : s.entry k = none) (hl : ∀ j, j < k → s.entry j ≠ none) :
    s.freeEntry = some k := by
  refine find_finRange_lowest _ k (by simp [h]) (fun j hj => ?_)
  cases e : s.entry j with
  | none => exact absurd e (hl j hj)
  | some v => rfl

/-! ### Arrivals and responses -/

/-- A request that is taken and is neither a tag reuse nor an empty write is decided; it parks only where the list has room. -/
theorem exec_systemRequest_fresh {r : SysRequest} {s : State} (h : TakenFresh r s) :
    exec (.systemRequest r) s = .next
      (match decideFresh s.park r (takeIn r s) with
      | (_, .gone, s1) => s1
      | (place, .parks reason, s1) =>
        if s.park.length < 32 then
          { s1 with park := s1.park ++ [{ request := r, place := place, reason := reason }] }
        else { s with waiting := some r }) := by
  have hc : canTake s = true := by simp [canTake, h.notPor, h.notSrst, h.noneWaiting, h.room]
  have ha : exec (.systemRequest r) s = .next (arrive r s) := by
    simp only [exec, execSystemRequest, hc, if_true, settle_of_not_owed h.settled]
  refine ha.trans (congrArg Host.Outcome.next ?_)
  unfold arrive
  exact (if_neg (by simp [h.freshTag])).trans (if_neg (by simp [h.enabled]))

/-- The response of a WAITING entry that is not orphaned goes to its owner; then its arrival is reported. -/
theorem exec_memoryResponse_waiting {k : Ticket} {req : MemRequest} {n : Nat} {s : State} (status : MemStatus)
    (data : LineData) (hp : s.por = false)
    (he : s.entry k = some { state := .waiting, request := req, orphaned := false, timeLeft := n }) :
    exec (.memoryResponse k status data) s =
      .next (reportArrival req (handToOwner req status data (s.setEntry k none))) := by
  simp [exec, execMemoryResponse, unlessPor, hp, takeResponse, he, onTime]

end Sys2Proof.Machine
end

