-- ==== Sys2Proof/Laws/Filter.lean ====
section
/-! SUPPORT. The capture filter as a canonical list of sets: what a put changes, and that every operation keeps the form. -/

namespace Sys2Proof.Machine

open Sys2Proof

/-- A list of sets is in canonical form: indexes rise strictly and stay below 2048, and no empty set is listed. -/
theorem filterCanonical_iff (f : List (Nat × FilterSet)) :
    filterCanonical f = true ↔ (∀ p ∈ f, p.1 < 2048 ∧ p.2 ≠ []) ∧ (f.map (·.1)).Pairwise (· < ·) := by
  simp [filterCanonical]

/-- A list whose indexes all exceed `k` lists nothing at `k`. -/
theorem filterGet_of_lt (f : List (Nat × FilterSet)) (k : Nat) (h : ∀ p ∈ f, k < p.1) : filterGet f k = [] := by
  induction f with
  | nil => rfl
  | cons p rest ih =>
    have hp := h p (by simp)
    obtain ⟨i, v⟩ := p
    have hne : ¬ i = k := by intro e; subst e; exact lt_irrefl _ hp
    simp only [filterGet, hne, if_false]
    exact ih (fun q hq => h q (by simp [hq]))

/-- The set just put is read back; every other set is as before. -/
theorem filterGet_filterPut (f : List (Nat × FilterSet)) (k j : Nat) (v : FilterSet)
    (hs : (f.map (·.1)).Pairwise (· < ·)) :
    filterGet (filterPut f k v) j = if j = k then v else filterGet f j := by
  induction f with
  | nil =>
    by_cases hv : v = [] <;> by_cases hj : j = k <;> simp [filterPut, filterGet, hv, hj]
    intro e; exact absurd e.symm hj
  | cons p rest ih =>
    obtain ⟨i, u⟩ := p
    have hs' : (rest.map (·.1)).Pairwise (· < ·) := (List.pairwise_cons.mp hs).2
    have hlt : ∀ p ∈ rest, i < p.1 := by
      intro p hp
      exact (List.pairwise_cons.mp hs).1 p.1 (List.mem_map_of_mem hp)
    by_cases hik : i = k
    · subst hik
      have hrest : filterGet rest i = [] := filterGet_of_lt rest i hlt
      by_cases hv : v = []
      · by_cases hj : j = i
        · subst hj; simp [filterPut, hv, hrest]
        · have hj' : ¬ i = j := fun e => hj e.symm
          simp [filterPut, filterGet, hv, hj, hj']
      · by_cases hj : j = i
        · subst hj; simp [filterPut, filterGet, hv]
        · have hj' : ¬ i = j := fun e => hj e.symm
          simp [filterPut, filterGet, hv, hj, hj']
    · by_cases hki : k < i
      · have hnone : filterGet ((i, u) :: rest) k = [] := by
          apply filterGet_of_lt
          intro p hp
          rcases List.mem_cons.mp hp with h | h
          · subst h; exact hki
          · exact lt_trans hki (hlt p h)
        by_cases hv : v = []
        · by_cases hj : j = k
          · subst hj; simp only [filterPut, hik, hki, hv, if_false, if_true]; exact hnone
          · simp [filterPut, hik, hki, hv, hj]
        · by_cases hj : j = k
          · subst hj; simp [filterPut, filterGet, hik, hki, hv]
          · have hj' : ¬ k = j := fun e => hj e.symm
            simp [filterPut, filterGet, hik, hki, hv, hj, hj']
      · simp only [filterPut, hik, hki, if_false, filterGet, ih hs']
        by_cases hij : i = j
        · have hjk : ¬ j = k := fun e => hik (hij.trans e)
          simp [hij, hjk]
        · simp [hij]

/-- The indexes after a put are the ones before, and the one put. -/
theorem mem_filterPut {f : List (Nat × FilterSet)} {k : Nat} {v : FilterSet} {p : Nat × FilterSet} (h : p ∈ filterPut f k v) :
    p ∈ f ∨ (p = (k, v) ∧ v ≠ []) := by
  induction f with
  | nil =>
    by_cases hv : v = [] <;> simp_all [filterPut]
  | cons q rest ih =>
    obtain ⟨i, u⟩ := q
    by_cases hik : i = k
    · by_cases hv : v = []
      · simp only [filterPut, hik, hv, if_true] at h; exact Or.inl (List.mem_cons_of_mem _ h)
      · simp only [filterPut, hik, hv, if_true, if_false, List.mem_cons] at h
        rcases h with h | h
        · exact Or.inr ⟨h, hv⟩
        · exact Or.inl (List.mem_cons_of_mem _ h)
    · by_cases hki : k < i
      · by_cases hv : v = []
        · simp only [filterPut, hik, hki, hv, if_true, if_false] at h; exact Or.inl h
        · simp only [filterPut, hik, hki, hv, if_true, if_false, List.mem_cons] at h
          rcases h with h | h
          · exact Or.inr ⟨h, hv⟩
          · exact Or.inl (by simpa using h)
      · simp only [filterPut, hik, hki, if_false, List.mem_cons] at h
        rcases h with h | h
        · exact Or.inl (by simp [h])
        · rcases ih h with h' | h'
          · exact Or.inl (List.mem_cons_of_mem _ h')
          · exact Or.inr h'

/-- A put keeps the canonical form. -/
theorem filterPut_canonical (f : List (Nat × FilterSet)) (k : Nat) (v : FilterSet) (hk : k < 2048)
    (h : filterCanonical f = true) : filterCanonical (filterPut f k v) = true := by
  rw [filterCanonical_iff] at h ⊢
  refine ⟨?_, ?_⟩
  · intro p hp
    rcases mem_filterPut hp with h' | ⟨h', hv⟩
    · exact h.1 p h'
    · subst h'; exact ⟨hk, hv⟩
  · have hs := h.2
    clear h
    induction f with
    | nil => by_cases hv : v = [] <;> simp [filterPut, hv]
    | cons q rest ih =>
      obtain ⟨i, u⟩ := q
      have hp := List.pairwise_cons.mp hs
      have hlt : ∀ p ∈ rest, i < p.1 := fun p hp' => hp.1 p.1 (List.mem_map_of_mem hp')
      by_cases hik : i = k
      · subst hik
        by_cases hv : v = []
        · simpa [filterPut, hv] using hp.2
        · simpa [filterPut, hv] using hs
      · by_cases hki : k < i
        · by_cases hv : v = []
          · simpa [filterPut, hik, hki, hv] using hs
          · simp only [filterPut, hik, hki, hv, if_true, if_false, List.map_cons]
            refine List.pairwise_cons.mpr ⟨?_, hs⟩
            intro x hx
            rcases List.mem_cons.mp hx with e | hx'
            · subst e; exact hki
            · exact lt_trans hki (hp.1 x hx')
        · simp only [filterPut, hik, hki, if_false, List.map_cons]
          refine List.pairwise_cons.mpr ⟨?_, ih hp.2⟩
          intro x hx
          obtain ⟨p, hp', rfl⟩ := List.mem_map.mp hx
          rcases mem_filterPut hp' with h' | ⟨h', _⟩
          · exact hlt p h'
          · subst h'; simp only; omega

/-- An insertion keeps the canonical form. -/
theorem filterInsert_canonical (w : WindowIdx) (g : Nat) (l : Line) (s : State) (h : filterCanonical s.filter = true) :
    filterCanonical (filterInsert w g l s).filter = true := by
  unfold filterInsert
  split
  · exact filterPut_canonical _ _ _ (Nat.mod_lt _ (by decide)) h
  · exact h

/-- A removal keeps the canonical form. -/
theorem filterRemove_canonical (w : WindowIdx) (s : State) (h : filterCanonical s.filter = true) :
    filterCanonical (filterRemove w s).filter = true := by
  rw [filterCanonical_iff] at h ⊢
  simp only [filterRemove]
  refine ⟨?_, ?_⟩
  · intro p hp
    simp only [List.mem_filter, List.mem_map, Bool.not_eq_true', List.isEmpty_eq_false_iff] at hp
    obtain ⟨⟨q, hq, rfl⟩, hne⟩ := hp
    exact ⟨(h.1 q hq).1, hne⟩
  · have : ∀ f : List (Nat × FilterSet), (f.map (·.1)).Pairwise (· < ·) →
        (((f.map (fun p => (p.1, p.2.filter (fun e => e.window != w)))).filter (fun p => !p.2.isEmpty)).map (·.1)).Pairwise
          (· < ·) := by
      intro f hf
      have hsub : (((f.map (fun p => (p.1, p.2.filter (fun e => e.window != w)))).filter
          (fun p => !p.2.isEmpty)).map (·.1)).Sublist (f.map (·.1)) := by
        have h1 := (List.filter_sublist (l := f.map (fun p => (p.1, p.2.filter (fun e => e.window != w))))
          (p := fun p => !p.2.isEmpty)).map (·.1)
        simpa [List.map_map, Function.comp_def] using h1
      exact hf.sublist hsub
    exact this _ h.2

end Sys2Proof.Machine
end

