-- ==== Sys2Proof/Tests/Slice0.lean ====
section
/-! SUPPORT. Tests: the two checks on the strings of the spec, the well-formedness smoke test, one step of every kind of command,
and for every statement states and operands that meet its hypotheses (`test_met_<statement>`). -/

namespace Sys2Proof.Tests

set_option Elab.async false

open Sys2Proof Sys2Proof.Machine

/-! ### Small states -/

def opened (n records slots : Nat) : GenEntry :=
  { number := n, state := .opened, firstSeq := none, recordCount := records, slotsPending := slots, closeCause := none }

def closing (n records slots : Nat) : GenEntry :=
  { number := n, state := .closing, firstSeq := none, recordCount := records, slotsPending := slots,
    closeCause := some .command }

def closed (n records : Nat) : GenEntry :=
  { number := n, state := .closed, firstSeq := none, recordCount := records, slotsPending := 0, closeCause := some .quiet }

/-- A window of one 4 KiB page at 0x1000. -/
def defined : Window := { Window.afterPor with state := .defined, base := 0x1000, size := 0x1000 }

/-- With a ring of 512 records at 0x10000. -/
def bound : Window := { defined with binding := some { base := 0x10000, blocks := 1, high := 4 } }

def armed (last : Nat) (gens : List GenEntry) : Window :=
  { bound with
    state := .armed, lastGen := last, gens := gens
    ring := { RingState.empty with occupancy := recordSum gens, head := recordSum gens } }

def stop1 : StopFields :=
  { stopPosition := 0, stopSequence := 0, remaining := 1, nextPosition := 0, nextSequence := 0 }

def hand : RecordInHand :=
  { position := 0, sequence := 0, kind := none, stage := .header, redo := false, ready := false, headerLine := 0,
    dataLine := 0 }

/-- A walk with `n` records to go. -/
def walk (n : Nat) (r : RecordInHand) : RewindContext :=
  { RewindContext.accepted 1 with phase := .walk, stop := some { stop1 with remaining := n }, inHand := some r }

/-- A rewind that waits in its drain. -/
def draining (pause : Bool) : RewindContext := { RewindContext.accepted 1 with pauseRequested := pause }

def rewinding (c : RewindContext) : Window := { armed 1 [opened 1 2 0] with state := .rewinding, rewind := some c }

/-- The part after reset with window 0 as given. -/
def one (v : Window) : State := State.reset.setWindow 0 v

def readAt (l : Line) : SysRequest := { requester := 5, tag := 7, line := l, op := .read }

def writeAt (l : Line) : SysRequest := { requester := 5, tag := 7, line := l, op := .write 1 allEnables }

def slotIn (phase : SlotPhase) (dropped : Bool) : Slot :=
  { phase := phase, window := 0, generation := 1, position := 0, sequence := 0, line := 0x40,
    trigger := triggerOf (writeAt 0x40), dropped := dropped, headerAnswered := false, dataAnswered := false,
    writeFailed := false }

def waitingFor (o : Owner) (l : Line) (op : MemOp) : OutEntry :=
  { state := .waiting, request := { owner := o, line := l, op := op }, orphaned := false, timeLeft := 9 }

def forwarded : MemRequest := { owner := .request 5 7, line := 0x40, op := .read }

def anEvent : Event := { serial := 3, body := tagReuseEvent (readAt 0x40) }

def manyEvents (n : Nat) : State := { State.reset with events := List.replicate n anEvent }

/-- The state that a command leaves. -/
def after (i : Instr) (s : State) : State :=
  match exec i s with
  | .next t => t
  | .fault _ => State.reset
  | .refused _ => State.reset

/-! ### The checks (R65, R146) -/

def nineDigits : List Byte := [0x31, 0x32, 0x33, 0x34, 0x35, 0x36, 0x37, 0x38, 0x39]

theorem test_crc8_of_the_spec : crc8 nineDigits = 0xF4 := by decide +kernel

theorem test_crc32_of_the_spec : crc32 nineDigits = 0x0376E6E7 := by decide +kernel

/-! ### Well-formedness -/

theorem test_a_known_code_is_not_unknown : (Instr.unknownCommand 0x10).wellFormed = false := by decide

theorem test_a_good_frame_is_no_frame_error :
    (Instr.status.frameBits.map (fun b => (Instr.frameError b).wellFormed)) = some false := by decide +kernel

theorem test_others_are_well_formed :
    (Instr.unknownCommand 0x11).wellFormed = true ∧ (Instr.frameError []).wellFormed = true := by decide +kernel

/-! ### Single steps -/

theorem test_status_data : (after .status State.reset).held.take 8 = [0x01, 0x01, 0x01, 0x46, 0x4C, 0x32, 0x34, 0x01] := by
  decide +kernel

theorem test_define : ((after (.define 0 0x1000 0x1000) State.reset).window 0) = defined := by decide +kernel

theorem test_arm : ((after (.arm 0) (one bound)).window 0) = armed 1 [opened 1 0 0] := by decide +kernel

theorem test_close_releases_the_oldest :
    ((after (.close 0) (one (armed 2 [closed 1 0, opened 2 3 0]))).window 0).gens =
      [{ opened 2 3 0 with state := .closed, closeCause := some .command }, opened 3 0 0] := by decide +kernel

theorem test_capture_takes_the_lowest_slot :
    ((after (.systemRequest (writeAt 0x40)) (one (armed 1 [opened 1 0 0]))).slot 0).map (·.phase) = some .reading := by
  decide +kernel

theorem test_grant_then_issue :
    (after .memoryRequestIssue (after .arbiterGrant { State.reset with forwardQ := [forwarded] })).entry 0 =
      some { state := .waiting, request := forwarded, orphaned := false, timeLeft := 1000 } := by decide +kernel

theorem test_rewind_of_nothing_is_done_at_once :
    ((after (.rewind 0 1) (one (armed 1 [opened 1 0 0]))).window 0).gens = [opened 2 0 0] := by decide +kernel

theorem test_an_expiry_is_queued :
    (match step (one { armed 1 [opened 1 0 0] with
        quietTick := .us1, timer := { running := true, remaining := 1, lapsed := false, elapsed := 0 } }) with
      | .next t => t.pending
      | .fault _ => []
      | .refused _ => []) = [.quietTimerExpiry 0] := by decide +kernel

theorem test_a_capture_record_reads_back :
    let h := captureHeader (slotIn .recording false) 5
    acceptHeader 0 0 h = some .capture ∧ captureCheckValid h 5 = true ∧ captureCheckValid h 6 = false ∧
      recordedLine h = 0x40 := by decide +kernel

theorem test_a_void_record_reads_back :
    acceptHeader 0 0 (voidHeader (slotIn .voiding true)) = some .void ∧
      voidCheckValid (voidHeader (slotIn .voiding true)) = true := by decide +kernel

/-! ### Steps and resets: states that meet the hypotheses -/

/-- POR_N asserted. -/
def underPor : State := { State.reset with por := true }

/-- No window but window 0 is in use. -/
theorem one_others (v : Window) (u : WindowIdx) (h : u ≠ 0) : (one v).window u = Window.afterPor := by
  rw [one, window_setWindow_ne _ _ h]
  revert u; decide +kernel

theorem reset_window (u : WindowIdx) : State.reset.window u = Window.afterPor := by revert u; decide +kernel

theorem reset_filterOk : FilterOk State.reset := ⟨rfl, fun _ h => nomatch h⟩

theorem one_filterOk (v : Window) : FilterOk (one v) := ⟨rfl, fun _ h => nomatch h⟩

theorem test_met_StepRunsTheFrontCommand :
    ({ State.reset with pending := [Instr.status] } : State).pending = .status :: [] := rfl

def idle : State :=
  { (one { armed 1 [opened 1 0 0] with
      quietTick := .us10, timer := { running := true, remaining := 1, lapsed := false, elapsed := 9 } }) with
    table := (State.reset.setEntry 0 (some { waitingFor (.request 5 7) 0x40 .read with timeLeft := 1 })).table }

theorem test_met_AnIdleStepIsOneMicrosecond :
    idle.pending = [] ∧ idle.por = false ∧ passOwed idle = false ∧ (idle.window 0).timer.running = true ∧ 0 < (idle.window 0).timer.remaining ∧
      (idle.window 0).quietTick.micros ≤ (idle.window 0).timer.elapsed + 1 ∧ (idle.window 1).timer.running = false ∧
      idle.entry 1 = none ∧ idle.entry 0 = some { waitingFor (.request 5 7) 0x40 .read with timeLeft := 1 } := by
  decide +kernel

theorem test_met_AnIdleStepIsOneMicrosecond_within_a_tick :
    let v := (one { armed 1 [opened 1 0 0] with
      quietTick := .us10, timer := { running := true, remaining := 1, lapsed := false, elapsed := 8 } }).window 0
    v.timer.running = true ∧ 0 < v.timer.remaining ∧ v.timer.elapsed + 1 < v.quietTick.micros := by decide +kernel

theorem test_met_ResetPinsDoWhatTheRulesGive :
    underPor.por = true ∧ State.reset.por = false ∧ Instr.status ≠ .powerOnReset ∧ Instr.status ≠ .systemPortReset ∧
      Instr.status ≠ .systemPortResetRelease ∧ (∀ b, Instr.status ≠ .powerOnResetRelease b) := by decide +kernel

def forwardingTrigger : State :=
  { State.reset.setSlot 3 (some (slotIn .forwarding false)) with
    forwardQ := [{ owner := .trigger 3, line := 0x40, op := .write 1 allEnables }] }

theorem test_met_SystemPortResetDiscardsTheRequests :
    forwardingTrigger.por = false ∧ (∃ r ∈ forwardingTrigger.forwardQ, r.owner = .trigger 3) ∧
      (∀ r ∈ forwardingTrigger.forwardQ, r.owner ≠ .trigger 2) ∧
      (∀ r ∈ State.reset.forwardQ, ∀ k, r.owner ≠ .trigger k) := by decide +kernel

/-! ### The management commands -/

theorem test_met_StatusAndQueryReport : State.reset.por = false ∧ (0 ≤ 3) ∧ (3 ≤ 3) := by decide

theorem test_met_DefineAndDeleteReplaceTheRecord :
    State.reset.por = false ∧ FilterOk State.reset ∧ (State.reset.window 15).state = .unused ∧
      ((2 ^ 40 - 2 ^ 36 : BitVec 40)).toNat % 4096 = 0 ∧ ((2 ^ 36 : BitVec 40)).toNat % 4096 = 0 ∧
      4096 ≤ ((2 ^ 36 : BitVec 40)).toNat ∧ ((2 ^ 36 : BitVec 40)).toNat ≤ 2 ^ 36 ∧
      ((2 ^ 40 - 2 ^ 36 : BitVec 40)).toNat + ((2 ^ 36 : BitVec 40)).toNat ≤ 2 ^ 40 ∧
      (∀ u : WindowIdx, u ≠ 15 → (State.reset.window u).state = .unused) :=
  ⟨rfl, reset_filterOk, by decide +kernel, by decide, by decide, by decide, by decide, by decide, by decide +kernel⟩

theorem test_met_DefineAndDeleteReplaceTheRecord_delete :
    (one defined).por = false ∧ FilterOk (one defined) ∧ ((one defined).window 0).state = .defined :=
  ⟨rfl, one_filterOk _, by decide +kernel⟩

theorem test_met_ConfigureAndBindRingSetTheirValues_configure :
    (one defined).por = false ∧ ((one defined).window 0).state = .defined ∧ 1 ≤ 1 ∧ 1 ≤ 4 ∧ 4 ≤ 4 := by decide +kernel

theorem test_met_ConfigureAndBindRingSetTheirValues_bindRing :
    (one defined).por = false ∧ ((one defined).window 0).state = .defined ∧
      ((2 ^ 40 - 2 ^ 32 : BitVec 40)).toNat % 65536 = 0 ∧ 1 ≤ ((65536 : BitVec 24)).toNat ∧
      ((65536 : BitVec 24)).toNat ≤ 65536 ∧
      ((2 ^ 40 - 2 ^ 32 : BitVec 40)).toNat + ((65536 : BitVec 24)).toNat * 65536 ≤ 2 ^ 40 ∧
      1 ≤ ((2 ^ 25 : BitVec 32)).toNat ∧ ((2 ^ 25 : BitVec 32)).toNat ≤ ((65536 : BitVec 24)).toNat * 512 ∧
      (∀ u : WindowIdx, ((one defined).window u).state ≠ .unused →
        ((2 ^ 40 - 2 ^ 32 : BitVec 40)).toNat + ((65536 : BitVec 24)).toNat * 65536 ≤ ((one defined).window u).base.toNat ∨
        ((one defined).window u).base.toNat + ((one defined).window u).size ≤ ((2 ^ 40 - 2 ^ 32 : BitVec 40)).toNat) ∧
      (∀ u : WindowIdx, ((one defined).window u).binding = none) ∧
      placedWriteIn (one defined) ((2 ^ 40 - 2 ^ 32 : BitVec 40)).toNat (((65536 : BitVec 24)).toNat * 65536) = false := by
  decide +kernel

theorem test_met_SetClassSetsOneClass :
    (one defined).por = false ∧ ((one defined).window 0).state ≠ .unused ∧ 63 < ((64 : Byte)).toNat ∧
      ((one defined).window 1).state = .unused ∧ (∀ c : ReqClass, (3 : Byte) ≠ c.code) :=
  ⟨rfl, by decide +kernel, by decide, by decide +kernel, by intro c; cases c <;> decide⟩

theorem test_met_ArmOpensTheFirstGeneration :
    let s := one { bound with lastGen := 4294967294 }
    s.por = false ∧ (s.window 0).state = .defined ∧ (s.window 0).binding ≠ none ∧ (s.window 0).lastGen < 4294967295 := by
  decide +kernel

theorem test_met_CloseOpensTheNextGeneration_with_room :
    let s := one (armed 4294967294 [closed 1 2, opened 2 0 1])
    s.por = false ∧ (s.window 0).state = .armed ∧ (s.window 0).gens = [closed 1 2] ++ [opened 2 0 1] ∧
      (opened 2 0 1).state = .opened ∧ (∀ o ∈ [closed 1 2], o.state = .closed) ∧ (s.window 0).lastGen < 4294967295 ∧
      [closed 1 2].length + 2 ≤ (s.window 0).depth + 1 ∧ ([] : List GenEntry).length + 2 ≤ (s.window 0).depth := by
  decide +kernel

theorem test_met_CloseOpensTheNextGeneration_at_depth_bound :
    let s := one (armed 1 [opened 1 0 1])
    s.por = false ∧ (s.window 0).state = .armed ∧ (s.window 0).gens = [] ++ [opened 1 0 1] ∧
      (s.window 0).lastGen < 4294967295 ∧ ([] : List GenEntry).length + 2 ≤ (s.window 0).depth := by decide +kernel

theorem test_met_CloseOpensTheNextGeneration_releasing :
    let s := one (armed 2 [closed 1 3, opened 2 4 0])
    s.por = false ∧ (s.window 0).state = .armed ∧ (s.window 0).gens = closed 1 3 :: [] ++ [opened 2 4 0] ∧
      (∀ o ∈ [closed 1 3], o.state = .closed ∧ o.number ≠ (opened 2 4 0).number) ∧
      (closed 1 3).number ≤ (s.window 0).lastGen ∧ (s.window 0).lastGen < 4294967295 ∧
      ([] : List GenEntry).length + 2 = (s.window 0).depth := by decide +kernel

theorem test_met_CloseOpensTheNextGeneration_at_depth_one :
    let s := fun slots => one { armed 4294967294 [opened 4294967294 3 slots] with depth := 1 }
    (s 1).por = false ∧ ((s 1).window 0).state = .armed ∧ ((s 1).window 0).gens = [opened 4294967294 3 1] ∧
      (opened 4294967294 3 1).number ≤ ((s 1).window 0).lastGen ∧ ((s 1).window 0).lastGen < 4294967295 ∧
      ((s 1).window 0).depth = 1 ∧ 0 < (opened 4294967294 3 1).slotsPending ∧
      ((s 0).window 0).gens = [opened 4294967294 3 0] ∧ 0 < (opened 4294967294 3 0).recordCount := by decide +kernel

theorem test_met_ReleaseFreesTheOldestGeneration :
    ((one (armed 2 [closed 1 3, opened 2 4 0])).window 0).gens = closed 1 3 :: opened 2 4 0 :: [] ∧
      (closed 1 3).state ≠ .closing ∧ 0 < (closed 1 3).recordCount ∧ (closed 1 0).recordCount = 0 ∧
      ((one (armed 2 [closed 1 0, opened 2 4 0])).window 0).gens = closed 1 0 :: opened 2 4 0 :: [] ∧
      ((one (armed 1 [opened 1 0 0])).window 0).gens = [opened 1 0 0] ∧
      ((one (armed 2 [closing 1 3 1, opened 2 4 0])).window 0).gens = closing 1 3 1 :: opened 2 4 0 :: [] ∧
      (closing 1 3 1).state = .closing ∧ ((one (armed 2 [closing 1 3 1, opened 2 4 0])).window 0).state = .armed ∧
      (one (armed 2 [closing 1 3 1, opened 2 4 0])).por = false := by decide +kernel

def withForwarded (v : Window) : State := { one v with forwardQ := [forwarded] }

theorem test_met_RewindRaisesTheFence :
    let s := one (armed 4294967294 [opened 1 2 0])
    s.por = false ∧ (s.window 0).state = .armed ∧ (s.window 0).lastGen < 4294967295 ∧
      (∃ e ∈ (s.window 0).gens, e.number = ((1 : BitVec 32)).toNat) ∧ drainEmpty s 0 = true ∧
      drainEmpty (withForwarded (armed 4294967294 [opened 1 2 0])) 0 = false := by decide +kernel

theorem test_met_PauseAndResumeSteerTheWalk :
    ((one (rewinding (walk 1 hand))).window 0).state = .rewinding ∧
      ((one (rewinding (walk 1 hand))).window 0).rewind = some (walk 1 hand) ∧
      ((one { rewinding (walk 1 hand) with state := .paused }).window 0).state = .paused ∧
      (walk 1 hand).stop = some { stop1 with remaining := 1 } ∧ (walk 1 hand).inHand = some hand ∧
      ({ walk 1 hand with inHand := none } : RewindContext).inHand = none ∧ 0 < ({ stop1 with remaining := 1 } : StopFields).remaining ∧
      ({ stop1 with remaining := 0 } : StopFields).remaining = 0 ∧ (one (rewinding (walk 1 hand))).por = false := by
  decide +kernel

theorem test_met_DisarmEndsTheArming :
    (one (armed 1 [opened 1 0 0])).por = false ∧ ((one (armed 1 [opened 1 0 0])).window 0).state = .armed ∧
      (one (armed 1 [opened 1 0 0])).slotsOf 0 = [] ∧
      ((one (armed 1 [opened 1 1 1])).setSlot 15 (some (slotIn .reading false))).slotsOf 0 ≠ [] := by decide +kernel

theorem test_met_PageBytesStandWhereTheLayoutSays :
    defined.binding = none ∧ bound.binding = some { base := 0x10000, blocks := 1, high := 4 } ∧ defined.rewind = none ∧
      defined.fault = none ∧ (closing 1 0 2).closeCause = some .command ∧ (opened 5 0 0).closeCause = none ∧
      (draining false).stop = none ∧ (draining false).inHand = none ∧ (walk 1 hand).inHand = some hand ∧ hand.kind = none ∧
      ({ hand with kind := some .void } : RecordInHand).kind = some .void ∧
      ({ defined with fault := some { cause := .recordBad, sequence := some 1, line := none } } : Window).fault =
        some { cause := .recordBad, sequence := some 1, line := none } ∧
      (armed 5 [closing 1 0 2, closed 2 0, closed 3 0, closed 4 0, opened 5 0 0]).gens[4]? = some (opened 5 0 0) ∧
      (rewinding (walk 1 hand)).rewind = some (walk 1 hand) ∧ (walk 1 hand).stop = some { stop1 with remaining := 1 } := by
  decide +kernel

theorem test_met_ReadEventTakesTheOldestEvent :
    (manyEvents 1).por = false ∧ (manyEvents 1).events = anEvent :: [] ∧ State.reset.events = [] := by decide +kernel

theorem test_met_SetPortSetsBothValues :
    State.reset.por = false ∧ (1 : BitVec 16) ≠ 0 ∧ (65535 : BitVec 16) ≠ 0 ∧ (∀ a, (2 : Byte) ≠ flagByte a) := by decide

theorem test_met_FrameErrorReplacesTheHeldResponse :
    State.reset.por = false ∧ frameIsGood (List.replicate 127 false) = false ∧ frameIsGood (List.replicate 129 false) = false ∧
      frameIsGood (List.replicate 128 true) = false ∧ (List.replicate 127 false).length < 128 ∧
      128 < (List.replicate 129 false).length ∧ (List.replicate 128 true).length = 128 := by decide +kernel

theorem test_met_EarlyTestsRefuse :
    State.reset.por = false ∧ ((0 : Byte)).toNat = 0 ∧ 16 < ((17 : Byte)).toNat ∧
      windowOperand (.arm 16) = some 16 ∧ (Instr.arm 16).code = some 0x06 ∧ 15 < ((16 : Byte)).toNat ∧
      windowOperand (.arm 15) = some (windowByte 15) ∧ stateTest (.arm 15) (State.reset.window 15).state = some .badState ∧
      stateTest (.disarm 0) .disarming = some .busy ∧ ((one defined).window 0).state = .defined ∧
      ((one defined).window 0).binding = none := by decide +kernel

theorem test_met_LateTestsRefuse_define :
    let s := (one defined).setWindow 1 { defined with base := 0x3000 }
    s.por = false ∧ (s.window 0).state = .defined ∧ ((0x1001 : BitVec 40)).toNat % 4096 ≠ 0 ∧
      ((0 : BitVec 40)).toNat < 4096 ∧ 2 ^ 36 < ((2 ^ 36 + 4096 : BitVec 40)).toNat ∧
      2 ^ 40 < ((2 ^ 40 - 4096 : BitVec 40)).toNat + ((8192 : BitVec 40)).toNat ∧ defineInRange 0x2000 0x2000 = true ∧
      (1 : WindowIdx) ≠ 0 ∧ (s.window 1).state ≠ .unused ∧
      ((0x2000 : BitVec 40)).toNat < (s.window 1).base.toNat + (s.window 1).size ∧
      (s.window 1).base.toNat < ((0x2000 : BitVec 40)).toNat + ((0x2000 : BitVec 40)).toNat := by decide +kernel

theorem test_met_LateTestsRefuse_define_ring :
    (one bound).por = false ∧ ((one bound).window 1).state = .unused ∧ defineInRange 0x1F000 0x1000 = true ∧
      ((one bound).window 0).state ≠ .unused ∧
      ((one bound).window 0).binding = some { base := 0x10000, blocks := 1, high := 4 } ∧
      ((0x1F000 : BitVec 40)).toNat < ((0x10000 : BitVec 40)).toNat + ({ base := 0x10000, blocks := 1, high := 4 } : RingBinding).bytes ∧
      ((0x10000 : BitVec 40)).toNat < ((0x1F000 : BitVec 40)).toNat + ((0x1000 : BitVec 40)).toNat := by decide +kernel

theorem test_met_LateTestsRefuse_configure :
    (one defined).por = false ∧ ((one defined).window 0).state = .defined ∧ (∀ f : FenceMode, (2 : Byte) ≠ f.code) ∧
      (∀ p : RingPolicy, (3 : Byte) ≠ p.code) ∧ ((0 : Byte)).toNat = 0 ∧ 4 < ((5 : Byte)).toNat ∧
      (∀ q : QuietTick, (4 : Byte) ≠ q.code) ∧ (∀ a, (2 : Byte) ≠ flagByte a) :=
  ⟨rfl, by decide +kernel, by intro f; cases f <;> decide, by intro p; cases p <;> decide, by decide, by decide,
    by intro q; cases q <;> decide, by decide⟩

theorem test_met_LateTestsRefuse_bindRing :
    let w := { one defined with forwardQ := [{ owner := .request 5 7, line := 0x400, op := .write 1 allEnables }] }
    ((0x100 : BitVec 40)).toNat % 65536 ≠ 0 ∧ ((0 : BitVec 24)).toNat = 0 ∧ 65536 < ((65537 : BitVec 24)).toNat ∧
      ((0 : BitVec 32)).toNat = 0 ∧ ((1 : BitVec 24)).toNat * 512 < ((513 : BitVec 32)).toNat ∧
      bindInRange 0 { base := 0, blocks := 1, high := 512 } = true ∧
      overlapsWindow (one defined) (fun _ => false) 0 65536 = true ∧
      bindInRange 0x10000 { base := 0x10000, blocks := 1, high := 1 } = true ∧
      overlapsRing (one bound) 1 0x10000 65536 = true ∧
      overlapsWindow w (fun _ => false) 0x10000 65536 = false ∧ overlapsRing w 0 0x10000 65536 = false ∧
      placedWriteIn w 0x10000 65536 = true ∧ (w.window 0).state = .defined ∧ w.por = false := by decide +kernel

theorem test_met_LateTestsRefuse_the_rest :
    ((one { bound with lastGen := 4294967295 }).window 0).state = .defined ∧
      ((one { bound with lastGen := 4294967295 }).window 0).binding ≠ none ∧
      4294967295 ≤ ((one { bound with lastGen := 4294967295 }).window 0).lastGen ∧
      (∃ e ∈ ((one (armed 2 [closing 1 0 1, opened 2 0 0])).window 0).gens, e.state = .closing) ∧
      (∀ e ∈ ((one (armed 4294967295 [opened 1 0 0])).window 0).gens, e.state ≠ .closing) ∧
      4294967295 ≤ ((one (armed 4294967295 [opened 1 0 0])).window 0).lastGen ∧
      (∀ e ∈ ((one (armed 1 [opened 1 0 0])).window 0).gens, e.number ≠ ((0 : BitVec 32)).toNat) ∧
      3 < ((4 : Byte)).toNat := by decide +kernel

theorem test_met_EveryTakenCommandLeavesItsResponse :
    State.reset.por = false ∧ (Instr.unknownCommand 0x11).wellFormed = true ∧
      (Instr.unknownCommand 0x11).code = some 0x11 ∧ (Instr.setPort 0 0).code = some 0x10 := by decide

theorem test_met_ManagementCommandsLeaveThePortsAlone :
    (Instr.arm 0).code ≠ none ∧ (∃ t, exec (.arm 0) (one bound) = .next t) ∧
      windowOperand (.arm 0) ≠ some (windowByte 15) ∧ (∀ u g, Instr.arm 0 ≠ .rewind u g) ∧
      (∀ u, Instr.arm 0 ≠ .resume u) ∧ (∀ w b z, Instr.arm 0 ≠ .define w b z) ∧ (∀ w, Instr.arm 0 ≠ .delete w) ∧
      (∀ n a, Instr.arm 0 ≠ .setPort n a) :=
  ⟨by decide, ⟨_, rfl⟩, by decide, by intros; exact Instr.noConfusion, by intros; exact Instr.noConfusion,
    by intros; exact Instr.noConfusion, by intros; exact Instr.noConfusion, by intros; exact Instr.noConfusion⟩

theorem test_met_FramesDecodeToTheirCommand :
    (Instr.bindRing 15 0xFFFFFF0000 65535 0xFFFFFFFF).wellFormed = true ∧
      ((Instr.bindRing 15 0xFFFFFF0000 65535 0xFFFFFFFF).frameBits).isSome = true := by decide +kernel

theorem test_met_TransfersDoWhatTheirLeadByteSays :
    State.reset.por = false ∧ State.reset.waitCsRise = false ∧ (0xC3 : Byte) ≠ 0x3C ∧
      (List.replicate 7 true).length < 8 ∧ ({ State.reset with waitCsRise := true } : State).transfer = .idle := by
  decide +kernel

theorem test_met_TransfersDoWhatTheirLeadByteSays_read :
    State.reset.por = false ∧ State.reset.waitCsRise = false ∧
      (∃ t, t = (byteBits 0xC3 ++ [true]).foldl (fun u b => sckRise b u) (csFall State.reset)) := ⟨rfl, rfl, _, rfl⟩

theorem test_met_TheUndoRecordIsWrittenAndTested :
    bound.binding = some { base := 0x10000, blocks := 1, high := 4 } ∧ ((0x10000 : BitVec 40)).toNat % 64 = 0 ∧
      ((0x10000 : BitVec 40)).toNat + 128 * 511 + 128 ≤ 2 ^ 40 ∧
      ((RecordKind.void = .capture ∧ voidHeader (slotIn .voiding true) = captureHeader (slotIn .voiding true) 0) ∨
        (RecordKind.void = .void ∧ voidHeader (slotIn .voiding true) = voidHeader (slotIn .voiding true))) :=
  ⟨rfl, by decide, by decide, Or.inr ⟨rfl, rfl⟩⟩

theorem test_met_EventsAndAttentionFollowTheirRules :
    (manyEvents 63).events.length < 64 ∧ 64 ≤ (manyEvents 64).events.length ∧ (manyEvents 64).por = false ∧
      underPor.por = true := by decide +kernel

/-! ### The system port -/

def admitting : State := { State.reset with admitted := [(5, 7)] }

/-- 63 responses wait: room for one request. -/
def almostFull : State :=
  { State.reset with responses := List.replicate 63 { requester := 0, tag := 0, status := .done, data := none } }

theorem test_met_AReusedTagAndAnEmptyWriteAreAnsweredAtOnce :
    admitting.por = false ∧ admitting.srst = false ∧ admitting.waiting = none ∧
      admitting.admitted.length + admitting.responses.length < 64 ∧ (5, 7) ∈ admitting.admitted ∧
      almostFull.admitted.length + almostFull.responses.length < 64 ∧ (5, 7) ∉ almostFull.admitted ∧
      passOwed admitting = false ∧ passOwed almostFull = false := by decide +kernel

theorem test_met_AReusedTagAndAnEmptyWriteAreAnsweredAtOnce_empty :
    almostFull.por = false ∧ almostFull.srst = false ∧ almostFull.waiting = none ∧
      almostFull.admitted.length + almostFull.responses.length < 64 ∧
      ({ readAt 0x40 with op := .write 1 0 } : SysRequest).op = .write 1 0 := by decide +kernel

/-- In a small state with window 0 alone, the request is taken. -/
theorem takenFresh_one (v : Window) (l : Line) : TakenFresh (readAt l) (one v) ∧ TakenFresh (writeAt l) (one v) := by
  constructor <;> constructor <;> first | rfl | (intro h; exact nomatch h) | exact (by decide : (0 : Nat) < 64)

/-- The first and the last line of window 0's page lie in it. -/
theorem liesIn_page {v : Window} (hs : v.state ≠ .unused) (hb : v.base = 0x1000) (hz : v.size = 0x1000)
    (hr : v.binding = none ∨ v.binding = some { base := 0x10000, blocks := 1, high := 4 }) (l : Line) (h : l = 0x40 ∨ l = 0x7F) :
    LiesIn (one v) 0 l := by
  have hw : (one v).window 0 = v := window_setWindow_self _ _ _
  have ho : ∀ u : WindowIdx, u ≠ 0 → ((one v).window u).state = .unused := by
    intro u hu; rw [one_others v u hu]; rfl
  refine ⟨by rw [hw]; exact hs, ?_, fun u hu hn => absurd (ho u hu) hn, ?_⟩
  · rw [hw]
    rcases h with rfl | rfl <;> simp [Window.covers, hb, hz, Line.addr]
  · intro u hn
    by_cases hu : u = 0
    · subst hu
      rw [hw]
      rcases hr with hr | hr <;> rcases h with rfl | rfl <;>
        simp [Window.ringCovers, hr, Line.addr]
    · exact absurd (ho u hu) hn

/-- Where a line lies depends on the windows alone. -/
theorem liesIn_of_windows {s t : State} {w : WindowIdx} {l : Line} (hw : t.windows = s.windows) (h : LiesIn s w l) :
    LiesIn t w l := by
  have e : ∀ u, t.window u = s.window u := by intro u; simp only [State.window, hw]
  refine ⟨by rw [e]; exact h.live, by rw [e]; exact h.inside, fun u hu hn => ?_, fun u hn => ?_⟩
  · rw [e] at hn ⊢; exact h.alone u hu hn
  · rw [e] at hn ⊢; exact h.noRing u hn

theorem lineFree_one (v : Window) (l : Line) : lineFree (one v) l := by
  refine ⟨?_, fun e h => nomatch h⟩
  simp [lineHeld, one, State.reset, State.setWindow, State.busySlots, State.occupied]

theorem test_met_TrespassAndDeniedWritesAreRefused :
    TakenFresh (writeAt 0x400) (one bound) ∧ ((one bound).window 0).state ≠ .unused ∧
      ((one bound).window 0).ringCovers 0x400 = true ∧ ((one bound).window 0).ringCovers 0x7FF = true ∧
      (∀ u : WindowIdx, u ≠ 0 → ((one bound).window u).state = .unused) ∧
      LiesIn (one { bound with classes := Vector.replicate 64 .readOnly }) 0 0x7F ∧
      ((one { bound with classes := Vector.replicate 64 .readOnly }).window 0).classes[5] = .readOnly :=
  ⟨(takenFresh_one _ _).2, by decide +kernel, by decide +kernel, by decide +kernel, by decide +kernel,
    liesIn_page (by decide +kernel) rfl rfl (Or.inr rfl) _ (Or.inr rfl), by decide +kernel⟩

theorem test_met_TrafficWithoutACaptureIsForwarded_untracked :
    TakenFresh (readAt 0x400) (one bound) ∧ lineFree (one bound) 0x400 ∧ (readAt 0x400).op = .read ∧
      ¬inNoRing (one bound) 0x400 ∧ inNoRing State.reset 0x3FFFFFFFF ∧
      (∀ u : WindowIdx, (State.reset.window u).state = .unused) := by
  refine ⟨(takenFresh_one _ _).1, lineFree_one _ _, rfl, ?_, ?_, by decide +kernel⟩
  · intro h
    exact absurd (h 0 (by decide +kernel)) (by decide +kernel)
  · intro u h
    exact absurd (by rw [reset_window]; rfl) h

def filtered : State :=
  { one (armed 1 [opened 1 1 0]) with filter := [(0x40, [{ way := 0, window := 0, generation := 1, line := 0x40 }])] }

theorem test_met_TrafficWithoutACaptureIsForwarded_tracked :
    TakenFresh (writeAt 0x40) (one defined) ∧ lineFree (one defined) 0x40 ∧ LiesIn (one defined) 0 0x40 ∧
      ((one defined).window 0).classes[5] ≠ .readOnly ∧ ((one defined).window 0).state = .defined ∧
      filterHit filtered 0 0x40 = true ∧ (filtered.window 0).state = .armed ∧ lineFree filtered 0x40 ∧
      TakenFresh (writeAt 0x40) filtered ∧ LiesIn filtered 0 0x40 ∧ (filtered.window 0).classes[5] ≠ .readOnly :=
  ⟨(takenFresh_one _ _).2, lineFree_one _ _, liesIn_page (by decide +kernel) rfl rfl (Or.inl rfl) _ (Or.inl rfl),
    by decide +kernel, by decide +kernel, by decide +kernel, by decide +kernel, lineFree_one (armed 1 [opened 1 1 0]) _,
    ⟨rfl, rfl, rfl, by decide +kernel, by decide +kernel, by decide, rfl⟩,
    liesIn_of_windows (s := one (armed 1 [opened 1 1 0])) rfl (liesIn_page (by decide +kernel) rfl rfl (Or.inr rfl) _ (Or.inl rfl)),
    by decide +kernel⟩

theorem test_met_AFilterMissIsCaptured :
    let s := one (armed 1 [opened 1 511 0])
    TakenFresh (writeAt 0x7F) s ∧ LiesIn s 0 0x7F ∧ (s.window 0).state = .armed ∧
      (s.window 0).classes[5] ≠ .readOnly ∧ lineFree s 0x7F ∧ filterHit s 0 0x7F = false ∧ LowestFree s 0 ∧
      (s.window 0).ring.occupancy < (s.window 0).capacity :=
  ⟨(takenFresh_one _ _).2, liesIn_page (by decide +kernel) rfl rfl (Or.inr rfl) _ (Or.inr rfl), by decide +kernel,
    by decide +kernel, lineFree_one _ _, by decide +kernel,
    ⟨by decide +kernel, fun j hj => absurd hj (Nat.not_lt_zero _)⟩, by decide +kernel⟩

/-- A full ring. -/
def full (policy : RingPolicy) (gens : List GenEntry) : Window := { armed 2 gens with policy := policy }

theorem test_met_ARequestThatCannotProceedParks_fenced_and_full :
    LiesIn (one (rewinding (walk 1 hand))) 0 0x40 ∧ ((one (rewinding (walk 1 hand))).window 0).state = .rewinding ∧
      ((one (rewinding (walk 1 hand))).window 0).fence = .hold ∧
      LiesIn (one (full .hold [opened 2 512 0])) 0 0x40 ∧ lineFree (one (full .hold [opened 2 512 0])) 0x40 ∧
      filterHit (one (full .hold [opened 2 512 0])) 0 0x40 = false ∧
      (∃ k, (one (full .hold [opened 2 512 0])).slot k = none) ∧
      ((one (full .hold [opened 2 512 0])).window 0).capacity ≤ ((one (full .hold [opened 2 512 0])).window 0).ring.occupancy ∧
      (one (full .hold [opened 2 512 0])).park.length < 32 ∧ TakenFresh (writeAt 0x40) (one (full .hold [opened 2 512 0])) ∧
      TakenFresh (writeAt 0x40) (one (rewinding (walk 1 hand))) :=
  ⟨liesIn_page (by decide +kernel) rfl rfl (Or.inr rfl) _ (Or.inl rfl), by decide +kernel, by decide +kernel,
    liesIn_page (by decide +kernel) rfl rfl (Or.inr rfl) _ (Or.inl rfl), lineFree_one _ _, by decide +kernel,
    ⟨0, by decide +kernel⟩, by decide +kernel, by decide +kernel, (takenFresh_one _ _).2, (takenFresh_one _ _).2⟩

/-- 32 requests are parked, and every slot is busy. -/
def crowded : State :=
  { one (armed 1 [opened 1 16 16]) with
    slots := Vector.replicate 16 (some (slotIn .reading false))
    park := List.replicate 32 { request := readAt 0x41, place := none, reason := .lineBusy } }

theorem test_met_ARequestThatCannotProceedParks_busy_and_no_slot :
    32 ≤ crowded.park.length ∧ (∀ k, crowded.slot k ≠ none) ∧ lineHeld crowded 0x40 = true ∧
      lineHeld crowded 0x42 = false ∧ (∀ e ∈ crowded.park, e.request.line ≠ 0x42) ∧ filterHit crowded 0 0x42 = false ∧
      (crowded.window 0).state = .armed ∧ LiesIn crowded 0 0x40 ∧ LiesIn crowded 0 0x7F ∧ TakenFresh (writeAt 0x42) crowded ∧
      TakenFresh (readAt 0x40) crowded := by
  have h : ∀ l : Line, l = 0x40 ∨ l = 0x7F → LiesIn crowded 0 l := fun l hl =>
    liesIn_of_windows (s := one (armed 1 [opened 1 16 16])) rfl (liesIn_page (by decide +kernel) rfl rfl (Or.inr rfl) l hl)
  exact ⟨by decide +kernel, by decide +kernel, by decide +kernel, by decide +kernel, by decide +kernel, by decide +kernel,
    by decide +kernel, h _ (Or.inl rfl), h _ (Or.inr rfl), ⟨rfl, rfl, rfl, by decide +kernel, by decide +kernel, by decide, rfl⟩,
    ⟨rfl, rfl, rfl, by decide +kernel, by decide +kernel, by decide, rfl⟩⟩

theorem test_met_ARequestThatCannotProceedParks_untracked :
    let s := { State.reset with forwardQ := [{ forwarded with line := 0x3FFFFFFFF }] }
    TakenFresh (writeAt 0x3FFFFFFFF) s ∧ lineHeld s 0x3FFFFFFFF = true ∧ (∀ u, (s.window u).state = .unused) ∧
      s.park.length < 32 :=
  ⟨⟨rfl, rfl, rfl, by decide, fun h => (nomatch h), by decide, rfl⟩, by decide +kernel, by decide +kernel, by decide⟩

theorem test_met_ClosedWindowsAnswerFault :
    let r := one (full .reclaim [closing 1 511 1, opened 2 1 0])
    ((one { armed 1 [opened 1 0 0] with state := .faulted }).window 0).state = .faulted ∧
      ((one { rewinding (walk 1 hand) with fence := .refuse }).window 0).fence = .refuse ∧
      lineFree r 0x40 ∧ filterHit r 0 0x40 = false ∧ (r.window 0).capacity ≤ (r.window 0).ring.occupancy ∧
      (r.window 0).policy = .reclaim ∧ (∀ m rest, (r.window 0).gens = m :: rest → m.state ≠ .closed) ∧
      LiesIn r 0 0x40 ∧ TakenFresh (writeAt 0x40) r := by
  refine ⟨by decide +kernel, by decide +kernel, lineFree_one _ _, by decide +kernel, by decide +kernel, by decide +kernel, ?_,
    liesIn_page (by decide +kernel) rfl rfl (Or.inr rfl) _ (Or.inl rfl), (takenFresh_one _ _).2⟩
  intro m rest h
  have hw : ((one (full .reclaim [closing 1 511 1, opened 2 1 0])).window 0).gens = [closing 1 511 1, opened 2 1 0] := by
    decide +kernel
  rw [hw] at h
  obtain ⟨rfl, -⟩ := List.cons.inj h
  decide

theorem test_met_ClosedWindowsAnswerFault_elsewhere :
    LiesIn (one { armed 1 [opened 1 0 0] with state := .faulted }) 0 0x40 ∧
      TakenFresh (readAt 0x40) (one { armed 1 [opened 1 0 0] with state := .faulted }) ∧
      LiesIn (one { rewinding (walk 1 hand) with fence := .refuse }) 0 0x7F ∧
      TakenFresh (writeAt 0x7F) (one { rewinding (walk 1 hand) with fence := .refuse }) ∧
      passOwed (one { rewinding (walk 1 hand) with fence := .refuse }) = false ∧
      (∃ t, exec (.systemRequest (writeAt 0x7F)) (one { rewinding (walk 1 hand) with fence := .refuse }) = .next t) :=
  ⟨liesIn_page (by decide +kernel) rfl rfl (Or.inr rfl) _ (Or.inl rfl), (takenFresh_one _ _).1,
    liesIn_page (by decide +kernel) rfl rfl (Or.inr rfl) _ (Or.inr rfl), (takenFresh_one _ _).2, rfl, ⟨_, rfl⟩⟩

theorem test_met_ReclaimMakesRoomForTheCapture :
    let r := one (full .reclaim [closed 1 1, opened 2 511 0])
    TakenFresh (writeAt 0x40) r ∧ LiesIn r 0 0x40 ∧ lineFree r 0x40 ∧ (r.window 0).state = .armed ∧
      (r.window 0).classes[5] ≠ .readOnly ∧ filterHit r 0 0x40 = false ∧ (∃ k, r.slot k = none) ∧
      (r.window 0).policy = .reclaim ∧ (r.window 0).ring.occupancy = (r.window 0).capacity ∧ 0 < (r.window 0).capacity ∧
      (r.window 0).gens = closed 1 1 :: [opened 2 511 0] ∧ (closed 1 1).state = .closed ∧ 0 < (closed 1 1).recordCount :=
  ⟨(takenFresh_one _ _).2, liesIn_page (by decide +kernel) rfl rfl (Or.inr rfl) _ (Or.inl rfl), lineFree_one _ _,
    by decide +kernel, by decide +kernel, by decide +kernel, ⟨0, by decide +kernel⟩, by decide +kernel,
    by decide +kernel, by decide +kernel, by decide +kernel, by decide, by decide⟩

theorem test_met_TheSystemPortTakesAndDelivers :
    ({ State.reset with srst := true } : State).srst = true ∧
      ({ State.reset with waiting := some (readAt 0) } : State).waiting ≠ none ∧
      64 ≤ ({ almostFull with admitted := [(5, 7)] } : State).admitted.length + almostFull.responses.length ∧
      almostFull.por = false ∧ almostFull.responses ≠ [] := by decide +kernel

def parkedOne : ParkEntry := { request := readAt 0x80, place := none, reason := .lineBusy }

/-- A request is parked and a pass is owed. -/
def owing : State := { State.reset with park := [parkedOne], admitted := [(5, 7)], reexamDue := true }

theorem test_met_TheSystemPortTakesAndDelivers_owed :
    owing.por = false ∧ owing.srst = false ∧ owing.waiting = none ∧ owing.admitted.length + owing.responses.length < 64 ∧
      passOwed owing = true := by decide +kernel

/-- A pass at its end, with an arrival that waits. -/
def atTheEnd : State := { owing with pass := some 1, reexamDue := false, waiting := some (readAt 0x81) }

theorem test_met_TheSystemPortTakesAndDelivers_waiting :
    atTheEnd.por = false ∧ atTheEnd.pending = [] ∧ atTheEnd.waiting = some (readAt 0x81) ∧
      atTheEnd.pass = some atTheEnd.park.length ∧ ({ atTheEnd with pass := some 0 } : State).pass ≠ some 1 := by
  decide +kernel

/-- An arrival is decided after the pass that an earlier trigger is owed (R120): the parked read of its line is placed first. -/
theorem test_an_arrival_comes_after_the_pass :
    let t := after (.systemRequest { readAt 0x80 with tag := 8 }) owing
    t.forwardQ = [{ owner := .request 5 7, line := 0x80, op := .read }] ∧ t.park.length = 1 ∧ passOwed t = false := by
  decide +kernel

/-- Two entries are parked; the first has been forwarded when SRST_N is asserted (R195). -/
theorem test_a_reset_between_two_decisions :
    let two := { owing with park := [parkedOne, { parkedOne with request := readAt 0x82 }] }
    let t := after .systemPortReset (passStep two)
    (passStep two).pass = some 0 ∧ (passStep two).park.length = 1 ∧ (passStep two).forwardQ.length = 1 ∧
      t.park = [] ∧ t.pass = none ∧ t.forwardQ = [] ∧ passOwed t = false := by decide +kernel

theorem test_met_AReExaminationDecidesTheParkList :
    owing.por = false ∧ passOwed owing = true ∧ owing.pending = [] ∧ owing.waiting = none ∧ owing.park = [parkedOne] ∧
      parkedOne.place = none ∧ (∀ u, (owing.window u).state = .unused) ∧ lineHeld owing 0x80 = false ∧
      passOwed State.reset = false ∧ owing.pass = none ∧ owing.reexamDue = true ∧ (passStep owing).pass ≠ none ∧
      (passStep atTheEnd).pass = none ∧
      ({ State.reset with waiting := some (readAt 0), reexamDue := true } : State).park = [] := by decide +kernel

/-- The second of two entries is reached; the first names another line. -/
def second (v : Window) (place : Option (WindowIdx × ReqClass)) : State :=
  { one v with
    park := [parkedOne, { request := readAt 0x40, place := place, reason := .noSlot }]
    admitted := [(5, 7)], pass := some 1, reexamDue := true }

theorem test_met_AReExaminationDecidesTheParkList_second :
    let s := second Window.afterPor none
    let f := second { armed 1 [opened 1 0 0] with state := .faulted } (some (0, .lead))
    s.pass = some 1 ∧ (s.park[1]?).map (·.place) = some none ∧ (∀ u, (s.window u).state = .unused) ∧
      lineHeld s 0x40 = false ∧ (∀ o ∈ s.park.take 1, o.request.line ≠ 0x40) ∧ (f.window 0).state = .faulted ∧
      (5, 7) ∈ f.admitted ∧ ((second { rewinding (walk 1 hand) with fence := .refuse } none).window 0).fence = .refuse ∧
      s.reexamDue = true := by decide +kernel

theorem test_met_AReExaminationDecidesTheParkList_stays :
    ((second (rewinding (walk 1 hand)) (some (0, .lead))).window 0).state = .rewinding ∧
      ((second (rewinding (walk 1 hand)) (some (0, .lead))).window 0).fence = .hold ∧
      ((second (armed 1 [opened 1 0 0]) (some (0, .lead))).window 0).state = .armed ∧
      lineHeld { second (armed 1 [opened 1 0 0]) (some (0, .lead)) with forwardQ := [forwarded] } 0x40 = true ∧
      (∃ o ∈ [{ parkedOne with request := readAt 0x40 }], o.request.line = 0x40) := by decide +kernel

theorem test_met_AReExaminationDecidesTheParkList_fenced :
    let e : ParkEntry := { request := readAt 0x40, place := some (0, .lead), reason := .lineBusy }
    let s := { one (rewinding (walk 1 hand)) with park := [e], reexamDue := true }
    s.por = false ∧ s.reexamDue = true ∧ s.pass = none ∧ s.waiting = none ∧
      (∀ e ∈ s.park, e.place = some (0, .lead)) ∧ (s.window 0).state = .rewinding ∧ (s.window 0).fence = .hold := by
  decide +kernel

/-! ### The quiet timers -/

theorem test_met_TheTimerFollowsTheWriteTable :
    let v := { armed 1 [opened 1 0 0] with quietReload := 1 }
    0 < v.quietReload ∧ v.timer.running = false ∧ v.timer.lapsed = false ∧ v.quietClosePending = false ∧
      (QuietTimer.load 1).running = true ∧ (QuietTimer.stop true).running = false ∧ (QuietTimer.stop true).lapsed = true := by
  decide +kernel

theorem test_met_AnExpiryClosesOrReports :
    let t : QuietTimer := { running := true, remaining := 0, lapsed := false, elapsed := 0 }
    let a := one { armed 4294967294 [opened 1 0 0] with timer := t, autoClose := true }
    a.por = false ∧ (a.window 0).state = .armed ∧ (a.window 0).timer.running = true ∧
      (a.window 0).timer.remaining = 0 ∧ (a.window 0).autoClose = true ∧
      (∀ e ∈ (a.window 0).gens, e.state ≠ .closing) ∧ (a.window 0).gens = [] ++ [opened 1 0 0] ∧
      (opened 1 0 0).slotsPending = 0 ∧ (a.window 0).lastGen < 4294967295 ∧
      ([] : List GenEntry).length + 2 ≤ (a.window 0).depth ∧
      ((one { armed 4294967295 [opened 1 0 0] with timer := t, autoClose := true }).window 0).lastGen = 4294967295 ∧
      (∃ e ∈ ((one (armed 2 [closing 1 0 1, opened 2 0 0])).window 0).gens, e.state = .closing) ∧
      ((one { armed 1 [opened 1 0 0] with timer := t }).window 0).autoClose = false := by decide +kernel

/-- A reload that comes before the expiry (R100): there is time left, and the expiry does nothing. -/
theorem test_met_AnExpiryClosesOrReports_reloaded :
    let s := one { armed 1 [opened 1 0 0] with timer := QuietTimer.load 7 }
    0 < (s.window 0).timer.remaining ∧ (State.reset.window 0).timer.running = false ∧
      ((after (.quietTimerExpiry 0) s).window 0).timer = QuietTimer.load 7 := by decide +kernel

/-! ### The memory port -/

/-- One request in each source. -/
def threeReady (last : Source) : State :=
  { State.reset with
    forwardQ := [forwarded], captureQ := [{ owner := .capture 0 .captureRead, line := 0x41, op := .read }]
    rewindOffer := some { owner := .rewind 0 .headerRead, line := 0x400, op := .read }, lastSource := last }

theorem test_met_TheArbiterGrantsAndTheControllerAccepts :
    (∀ u, (threeReady .rewind).entry u = none) ∧ (threeReady .rewind).forwardQ = forwarded :: [] ∧
      (threeReady .forward).lastSource = .forward ∧ (threeReady .capture).lastSource = .capture ∧
      (∀ j : Ticket, j < 47 → ({ State.reset with
        table := (Vector.replicate 48 (some (waitingFor (.request 5 7) 0x40 .read))).set 47 none } : State).entry j ≠ none) ∧
      (∀ u, ({ State.reset with table := Vector.replicate 48 (some (waitingFor (.request 5 7) 0x40 .read)) } : State).entry u ≠
        none) ∧
      State.reset.forwardQ = [] ∧ State.reset.captureQ = [] ∧ State.reset.rewindOffer = none := by decide +kernel

def presenting : State := State.reset.setEntry 47 (some (OutEntry.granted forwarded))

theorem test_met_TheArbiterGrantsAndTheControllerAccepts_issue :
    presenting.por = false ∧ OnePresented presenting ∧ presenting.entry 47 = some (OutEntry.granted forwarded) ∧
      (OutEntry.granted forwarded).state = .presented :=
  ⟨rfl, by unfold OnePresented; decide +kernel, by decide +kernel, rfl⟩

/-! ### The capture filter -/

/-- A set with its four ways taken: window 1 is not ARMED, so its entry is stale. -/
def fourWays : FilterSet :=
  [{ way := 2, window := 0, generation := 1, line := 0x840 }, { way := 0, window := 1, generation := 1, line := 0x840 },
   { way := 1, window := 0, generation := 1, line := 0x1040 }, { way := 3, window := 0, generation := 1, line := 0x1840 }]

def learning (set : FilterSet) : State :=
  { one (armed 1 [opened 1 1 0]) with filter := if set = [] then [] else [(0x40, set)] }

theorem filterOk_learning {set : FilterSet} (h : set ≠ []) (hs : FilterSetOk 0x40 set) : FilterOk (learning set) := by
  refine ⟨?_, fun p hp => ?_⟩
  · have : ¬ set.isEmpty = true := by simpa using h
    simp [learning, h, filterCanonical, this]
  · have : p = (0x40, set) := by simpa [learning, h] using hp
    rw [this]; exact hs

theorem test_met_TheFilterHitsAndLearns :
    FilterOk (learning fourWays) ∧ ((learning fourWays).window 0).state = .armed ∧
      ((learning fourWays).window 0).openEntry = some (opened 1 1 0) ∧ ((learning fourWays).window 1).state ≠ .armed ∧
      (∀ i : Fin 4, ∃ e ∈ fourWays, e.way = i) ∧ (∀ e ∈ fourWays, ¬(e.window = 0 ∧ e.line = 0x40)) ∧
      (∀ e ∈ fourWays.tail.tail, ∀ i : Fin 4, i = 2 → e.way ≠ i) ∧
      filterGet (learning fourWays).filter (((0x40 : Line)).toNat % 2048) = fourWays :=
  ⟨filterOk_learning (by decide) ⟨by decide, by decide, by decide⟩, by decide +kernel, by decide +kernel, by decide +kernel,
    by decide, by decide, by decide, by decide +kernel⟩

/-- The four rules of the choice of a way: the same line's, the lowest empty, the stale one, the oldest. -/
theorem test_the_four_ways :
    let at_ (s : State) (l : Line) : List (Fin 4) := (filterGet (filterInsert 0 1 l s).filter 0x40).map (·.way)
    at_ (learning fourWays) 0x1040 = [2, 0, 3, 1] ∧ at_ (learning (fourWays.drop 2)) 0x40 = [1, 3, 0] ∧
      at_ (learning fourWays) 0x40 = [2, 1, 3, 0] ∧
      at_ (learning (fourWays.map (fun e => { e with window := 0, line := e.line + 0x2000 * e.way.val }))) 0x40 =
        [0, 1, 3, 2] := by decide +kernel

/-! ### Responses and timeouts -/

theorem test_met_StrayAndLateResponsesHandNothingOver_stray :
    State.reset.entry 0 = none ∧ (∃ e, presenting.entry 47 = some e ∧ e.state = .presented) :=
  ⟨by decide +kernel, ⟨OutEntry.granted forwarded, by decide +kernel, rfl⟩⟩

/-- Ticket 0 waits for a response to an operation. -/
def answering (v : Window) (o : Owner) (op : MemOp) : State :=
  { one v with table := State.reset.table.set 0 (some (waitingFor o 0x40 op)), admitted := [(5, 7)] }

/-- An orphaned trigger, late: its slot still carries it. -/
theorem test_met_StrayAndLateResponsesHandNothingOver_orphaned :
    let e := { waitingFor (.trigger 3) 0x40 (.write 1 allEnables) with state := .late, orphaned := true }
    let s := (State.reset.setSlot 3 (some (slotIn .forwarding false))).setEntry 0 (some e)
    s.por = false ∧ s.entry 0 = some e ∧ e.state = .late ∧ e.orphaned = true ∧ e.request.owner = .trigger 3 ∧
      s.slot 3 = some (slotIn .forwarding false) ∧ (slotIn .forwarding false).phase = .forwarding ∧
      (slotIn .forwarding false).line = e.request.line := by decide +kernel

/-- Every kind of owner can wait for its answer. -/
theorem answering_entry (v : Window) (o : Owner) (op : MemOp) :
    (answering v o op).por = false ∧ (answering v o op).entry 0 = some (waitingFor o 0x40 op) := ⟨rfl, rfl⟩

theorem test_met_StrayAndLateResponsesHandNothingOver :
    let s := State.reset.setEntry 0 (some { waitingFor (.request 5 7) 0x40 .read with state := .late })
    s.por = false ∧ s.entry 0 = some { waitingFor (.request 5 7) 0x40 .read with state := .late } ∧
      (waitingFor (.request 5 7) 0x40 .read).orphaned = false := by decide +kernel

theorem test_met_AForwardedRequestIsAnswered :
    let s := answering bound (.request 5 7) .read
    s.por = false ∧ s.entry 0 = some (waitingFor (.request 5 7) 0x40 .read) ∧ (5, 7) ∈ s.admitted := by decide +kernel

theorem test_met_ACaptureReadIsAnswered :
    let s := (answering (armed 1 [opened 1 1 1]) (.capture 2 .captureRead) .read).setSlot 2 (some (slotIn .reading false))
    s.por = false ∧ s.entry 0 = some (waitingFor (.capture 2 .captureRead) 0x40 .read) ∧
      s.slot 2 = some (slotIn .reading false) ∧ (s.window 0).state ≠ .faulted ∧
      ((one { armed 1 [opened 1 1 1] with state := .faulted }).window 0).state = .faulted := by decide +kernel

theorem test_met_TheEndsOfACapture :
    let sl := { slotIn .recording false with dataAnswered := true }
    let s := (answering (armed 1 [opened 1 1 1]) (.capture 2 .headerWrite) (.write 1 allEnables)).setSlot 2 (some sl)
    s.por = false ∧ s.entry 0 = some (waitingFor (.capture 2 .headerWrite) 0x40 (.write 1 allEnables)) ∧
      s.slot 2 = some sl ∧ sl.dataAnswered = true ∧ sl.writeFailed = false ∧ sl.dropped = false ∧
      (slotIn .recording true).dropped = true := by decide +kernel

theorem test_met_TheEndsOfACapture_void_and_trigger :
    let void := (answering (armed 1 [opened 1 1 1]) (.capture 2 .voidWrite) (.write 1 allEnables)).setSlot 2
      (some (slotIn .voiding true))
    let trigger := (answering (armed 1 [opened 1 1 1]) (.trigger 2) (.write 1 allEnables)).setSlot 2
      (some (slotIn .forwarding false))
    void.entry 0 = some (waitingFor (.capture 2 .voidWrite) 0x40 (.write 1 allEnables)) ∧
      void.slot 2 = some (slotIn .voiding true) ∧ void.por = false ∧
      trigger.entry 0 = some (waitingFor (.trigger 2) 0x40 (.write 1 allEnables)) ∧
      trigger.slot 2 = some (slotIn .forwarding false) ∧ trigger.por = false := by decide +kernel

theorem test_met_AFreedSlotReportsToItsWindow :
    let s := (one (armed 2 [closing 1 1 2, opened 2 0 0])).setSlot 15 (some (slotIn .reading false))
    let d := (one { armed 1 [opened 1 1 1] with state := .disarming }).setSlot 15 (some (slotIn .voiding true))
    s.slot 15 = some (slotIn .reading false) ∧ (slotIn .reading false).window = 0 ∧
      (s.window 0).gens = [] ++ closing 1 1 2 :: [opened 2 0 0] ∧ (∀ e ∈ [] ++ [opened 2 0 0], e.number ≠ 1) ∧
      ¬((closing 1 1 2).state = .closing ∧ (closing 1 1 2).slotsPending ≤ 1) ∧ (s.window 0).state ≠ .disarming ∧
      (closing 1 1 1).slotsPending = 1 ∧ ((one { armed 1 [] with state := .faulted }).window 0).state = .faulted ∧
      (d.window 0).state = .disarming ∧ (∀ j, j ≠ 15 → d.slot j = none) := by decide +kernel

theorem test_met_AFreedSlotReportsToItsWindow_closed :
    let s := fun (gens : List GenEntry) (st : WindowState) (pending : Bool) (depth last : Nat) =>
      (one { armed last gens with state := st, quietClosePending := pending, depth := depth }).setSlot 15
        (some (slotIn .voiding true))
    ((s [closing 1 1 1, opened 2 0 0] .rewinding false 2 2).window 0).state = .rewinding ∧
      ([] : List GenEntry).length + 1 + [opened 2 0 0].length ≤ 2 ∧ (closing 1 1 1).slotsPending = 1 ∧
      ((s [closing 1 1 1, opened 2 0 0] .armed false 1 2).window 0).depth = [opened 2 0 0].length ∧
      0 < (closing 1 1 1).recordCount ∧
      ((s [closing 1 1 1, opened 2 0 0] .armed true 3 2).window 0).quietClosePending = true ∧
      ([] : List GenEntry).length + 3 ≤ 3 ∧ (opened 2 0 0).slotsPending = 0 ∧ (opened 2 0 0).state = .opened ∧
      4294967295 ≤ ((s [closing 1 1 1, opened 2 0 0] .armed true 3 4294967295).window 0).lastGen ∧
      ((s [closing 1 1 1, opened 2 0 0] .armed true 3 2).slot 15) = some (slotIn .voiding true) := by decide +kernel

theorem test_met_AFailureFaultsTheWindowOnce :
    let s := { (one (armed 1 [opened 1 1 1])).setSlot 15 (some (slotIn .reading false)) with admitted := [(5, 7)] }
    (s.window 0).state = .armed ∧ s.slot 15 = some (slotIn .reading false) ∧ (slotIn .reading false).dropped = false ∧
      ((slotIn .reading false).trigger.requester, (slotIn .reading false).trigger.tag) ∈ s.admitted ∧
      s.events.length < 64 ∧ (s.window 1).state ≠ .armed ∧ (s.window 1).state ≠ .rewinding := by decide +kernel

/-- The header of a record that names line 0x40, and the walk at each stage. -/
def headerRead : LineData := captureHeader (slotIn .recording false) 9

theorem test_met_TheWalkRestoresRecordByRecord :
    let s := answering (rewinding (walk 2 hand)) (.rewind 0 .headerRead) .read
    s.por = false ∧ s.entry 0 = some (waitingFor (.rewind 0 .headerRead) 0x40 .read) ∧ (s.window 0).state = .rewinding ∧
      (s.window 0).rewind = some (walk 2 hand) ∧ (walk 2 hand).stop = some { stop1 with remaining := 2 } ∧
      (walk 2 hand).inHand = some hand ∧ acceptHeader 0 hand.sequence headerRead = some .capture ∧
      addressValid (s.window 0) headerRead = true ∧ captureCheckValid headerRead 9 = true ∧
      (walk 2 hand).pauseRequested = false ∧ hand.redo = false ∧ acceptHeader 0 hand.sequence 0 = none := by decide +kernel

theorem test_met_TheWalkSkipsPausesAndFails :
    let void := voidHeader (slotIn .voiding true)
    acceptHeader 0 hand.sequence void = some .void ∧ voidCheckValid void = true ∧ (walk 2 hand).pauseRequested = false ∧
      acceptHeader 0 hand.sequence (void ^^^ (1 <<< 480)) = some .void ∧ voidCheckValid (void ^^^ (1 <<< 480)) = false ∧
      captureCheckValid headerRead 8 = false ∧ ({ walk 2 hand with pauseRequested := true } : RewindContext).pauseRequested = true ∧
      ({ hand with redo := true } : RecordInHand).redo = true ∧ 1 < ({ stop1 with remaining := 2 } : StopFields).remaining := by
  decide +kernel

theorem test_met_TheLastRestoreCompletesTheRewind :
    let s := answering (rewinding (walk 1 hand)) (.rewind 0 .restoreWrite) (.write 9 allEnables)
    s.por = false ∧ s.entry 0 = some (waitingFor (.rewind 0 .restoreWrite) 0x40 (.write 9 allEnables)) ∧
      (s.window 0).rewind = some (walk 1 hand) ∧ (s.window 0).gens = [] ++ opened 1 2 0 :: [] ∧
      (opened 1 2 0).number = (walk 1 hand).target ∧ ([] : List GenEntry).length + 1 ≤ (s.window 0).depth ∧
      0 < recordSum (opened 1 2 0 :: []) ∧ s.events.length < 64 ∧ (s.window 0).state = .rewinding := by decide +kernel

theorem test_met_ATimeoutHandsAnErrorToTheOwner :
    let e := { waitingFor (.rewind 0 .headerRead) 0x40 .read with timeLeft := 0 }
    let s := ((answering (rewinding (walk 1 hand)) (.rewind 0 .headerRead) .read).setEntry 0 (some e)).setSlot 2
      (some (slotIn .reading false))
    s.por = false ∧ s.entry 0 = some e ∧ s.slot 2 = some (slotIn .reading false) ∧ e.state = .waiting ∧ e.timeLeft = 0 ∧
      (s.window 0).state = .rewinding ∧ (s.window 0).rewind = some (walk 1 hand) ∧ (5, 7) ∈ s.admitted ∧
      0 < (waitingFor (.request 5 7) 0x40 .read).timeLeft ∧ State.reset.entry 0 = none := by decide +kernel

/-- A restore write of window 3 that is still out holds up a later rewind of window 3, and no other (R69, R78). -/
theorem test_only_its_own_restore_write_holds_up_a_drain :
    let late (u : WindowIdx) : State := (one (rewinding (draining false))).setEntry 0
      (some { waitingFor (.rewind u .restoreWrite) 0x40 (.write 1 allEnables) with state := .late })
    drainEmpty (late 0) 0 = false ∧ drainEmpty (late 3) 0 = true := by decide +kernel

theorem test_met_TheEndOfTheDrainStartsTheWalk :
    let s := one (rewinding (draining false))
    s.por = false ∧ (s.window 0).state = .rewinding ∧ (s.window 0).rewind = some (draining false) ∧
      (draining true).phase = .drain ∧ drainEmpty s 0 = true ∧ (s.window 0).gens = [] ++ opened 1 2 0 :: [] ∧
      (opened 1 2 0).number = (draining false).target ∧ 0 < recordSum (opened 1 2 0 :: []) ∧
      (draining true).pauseRequested = true ∧ (s.window 1).state ≠ .rewinding ∧
      drainEmpty (withForwarded (rewinding (draining false))) 0 = false := by decide +kernel

/-- The target 1 was released while the drain waited: generation 2, without a record, takes its place. -/
theorem test_met_TheEndOfTheDrainStartsTheWalk_moved :
    let s := one { armed 2 [opened 2 0 0] with state := .rewinding, rewind := some (draining false) }
    s.por = false ∧ drainEmpty s 0 = true ∧ (s.window 0).gens = [] ++ opened 2 0 0 :: [] ∧
      (∀ e ∈ opened 2 0 0 :: [], e.number ≠ (draining false).target) ∧ recordSum (opened 2 0 0 :: []) = 0 := by
  decide +kernel

theorem test_met_TheRewindSourceTurnsRoundRobin :
    let s := one (rewinding (walk 1 { hand with ready := true }))
    rewindInFlight s = false ∧ (s.window 0).rewindReady = true ∧
      (s.window 0).rewind = some (walk 1 { hand with ready := true }) ∧
      (∀ u : WindowIdx, (u.val + 15 - s.rewindLast.val) % 16 < ((0 : WindowIdx).val + 15 - s.rewindLast.val) % 16 →
        (s.window u).rewindReady = false) ∧
      rewindInFlight { s with rewindOffer := some forwarded } = true ∧
      (∀ w, (State.reset.window w).rewindReady = false) := by decide +kernel

theorem test_met_TheRewindSourceTurnsRoundRobin_request :
    let r := { hand with stage := .restore, headerLine := captureHeader (slotIn .recording false) 9 }
    bound.binding = some { base := 0x10000, blocks := 1, high := 4 } ∧ ((0x10000 : BitVec 40)).toNat % 64 = 0 ∧
      ((0x10000 : BitVec 40)).toNat + 128 * hand.position + 128 ≤ 2 ^ 40 ∧ r.stage = .restore ∧
      addressValid bound r.headerLine = true := by decide +kernel

/-- The window after the one granted last comes first, the last one itself comes last. -/
theorem test_met_TheRewindSourceTurnsRoundRobin_at_the_ends :
    (0 + 15 - 15) % 16 = 0 ∧ (15 + 15 - 15) % 16 = 15 ∧ (1 + 15 - 0) % 16 = 0 ∧ (0 + 15 - 0) % 16 = 15 := by decide

/-! ### The laws -/

theorem almostFull_bounded : AdmissionBounded almostFull where
  distinct := by decide +kernel
  together := by decide +kernel
  waitingBelow := fun h => absurd h (by decide +kernel)
  parked := by decide +kernel
  cursor := fun _ h => nomatch h

theorem reset_lists : GenerationListLaw Window.afterPor where
  depthPositive := by decide
  rising := List.Pairwise.nil
  bounded := fun _ h => nomatch h
  idle := fun _ => rfl
  newestOpen := fun h => absurd rfl h.1
  oneClosing := by decide
  counted := fun _ => rfl
  withinDepth := fun _ => Or.inl (by decide)

/-- A state that meets every law, and a step from it. -/
theorem test_met_laws_of_queues :
    EventsBounded (manyEvents 64) ∧ HeldIsFrame State.reset ∧ OnePresented presenting ∧ AdmissionBounded almostFull ∧
      (∃ t, step { State.reset with pending := [.readEvent] } = .next t) := by
  refine ⟨by unfold EventsBounded; decide +kernel, ⟨by decide +kernel, by decide +kernel⟩,
    by unfold OnePresented; decide +kernel, almostFull_bounded, ⟨_, rfl⟩⟩

theorem test_met_laws_of_windows :
    FilterOk (one (armed 1 [opened 1 2 0])) ∧ EveryWindow RingBounded (one (armed 1 [opened 1 2 0])) ∧
      EveryWindow TimerWithArming (one (armed 1 [opened 1 2 0])) := by
  have h : ∀ u : WindowIdx, (one (armed 1 [opened 1 2 0])).window u = armed 1 [opened 1 2 0] ∨
      (one (armed 1 [opened 1 2 0])).window u = Window.afterPor := by
    intro u
    by_cases hu : u = 0
    · subst hu; exact Or.inl (window_setWindow_self _ _ _)
    · exact Or.inr (one_others _ u hu)
  refine ⟨one_filterOk _, fun u => ?_, fun u => ?_⟩
  · rcases h u with e | e <;> rw [e] <;> constructor <;> decide
  · rcases h u with e | e <;> rw [e] <;> unfold TimerWithArming <;> decide

theorem test_met_laws_of_history : HistoryOk State.reset ∧ SlotsCounted State.reset ∧ OneRequestPerLine State.reset := by
  have hs : ∀ w, State.reset.slotsOf w = [] := by decide +kernel
  have hd : ¬ Window.afterPor.afterDrain := by
    rintro (h | h)
    · exact nomatch h
    · exact nomatch h.1
  refine ⟨⟨fun w => ?_, fun w h => ?_, fun w _ => hs w, fun w c h => ?_⟩, ⟨fun w _ => hs w, fun w k h => ?_, fun w e h => ?_⟩,
    ⟨by decide +kernel, fun _ h => (nomatch h), fun _ h => (nomatch h)⟩⟩
  · rw [reset_window]
    exact reset_lists
  · rw [reset_window] at h; exact nomatch h
  · rw [reset_window] at h; exact absurd h hd
  · rw [hs w] at h; exact nomatch h
  · rw [reset_window] at h; exact nomatch h

end Sys2Proof.Tests
end

section
/-! What an arrival that is a tag reuse or an empty write comes to (R106, R107), and which events the decision of any other
arrival can produce (R108, R110, R115). -/

namespace Sys2Proof.Machine

open Sys2Proof

/-! ### The request that is taken -/

/-- With the conditions of R105 met and no pass owed, the request is decided as an arrival in the state as it stands. -/
theorem exec_systemRequest_arrive (r : SysRequest) {s : State} (hp : s.por = false) (hs : s.srst = false)
    (hw : s.waiting = none) (hl : s.admitted.length + s.responses.length < 64) (ho : passOwed s = false) :
    exec (.systemRequest r) s = .next (arrive r s) := by
  have hc : canTake s = true := by simp [canTake, hp, hs, hw, hl]
  have he : exec (.systemRequest r) s = .next (if canTake s then arrive r (settle s) else s) := rfl
  rw [he, if_pos hc, settle_of_not_owed ho]

theorem arrive_of_reuse {r : SysRequest} {s : State} (h : (r.requester, r.tag) ∈ s.admitted) :
    arrive r s =
      emit (tagReuseEvent r) (respond { requester := r.requester, tag := r.tag, status := .fault, data := none } s) :=
  if_pos (List.contains_iff_mem.mpr h)

theorem arrive_of_emptyWrite {r : SysRequest} {s : State} (h : (r.requester, r.tag) ∉ s.admitted)
    (he : emptyWrite r = true) :
    arrive r s = respond { requester := r.requester, tag := r.tag, status := .done, data := none } s :=
  (if_neg (mt List.contains_iff_mem.mp h)).trans (if_pos he)

theorem emptyWrite_of_noEnable {r : SysRequest} {data : LineData} (h : r.op = .write data 0) : emptyWrite r = true := by
  simp [emptyWrite, h]

/-! ### The events of a decision -/

/-- The kinds of event that the decision of a request can produce: the refusals of classification (R108, R110), and what the
capture set-up does to the ring (R51, R55, R58). -/
def decisionKinds : List EventKind := [.trespass, .deniedWrite, .genReleased, .ringHigh, .ringFull]

/-- Every event that `t` holds and `s` does not is of a kind that a decision can produce. -/
def DecisionEvents (s t : State) : Prop := ∀ e ∈ t.events, e ∉ s.events → e.body.kind ∈ decisionKinds

theorem DecisionEvents.of_eq {s t : State} (h : t.events = s.events) : DecisionEvents s t :=
  fun _ he hn => absurd (h ▸ he) hn

theorem DecisionEvents.refl (s : State) : DecisionEvents s s := .of_eq rfl

theorem DecisionEvents.trans {s t u : State} (h : DecisionEvents s t) (k : DecisionEvents t u) : DecisionEvents s u := by
  intro e he hn
  by_cases ht : e ∈ t.events
  · exact h e ht hn
  · exact k e he ht

theorem decisionEvents_emit {b : EventBody} (s : State) (h : b.kind ∈ decisionKinds) : DecisionEvents s (emit b s) := by
  intro e he hn
  by_cases hr : s.events.length < 64
  · rw [emit_of_room b s hr] at he
    rcases List.mem_append.mp he with hold | hnew
    · exact absurd hold hn
    · rw [List.mem_singleton.mp hnew]
      exact h
  · rw [emit_of_full b s (Nat.le_of_not_lt hr)] at he
    exact absurd he hn

/-- An update that leaves the event queue alone, then one event. -/
theorem decisionEvents_emit_of_eq {b : EventBody} {s t : State} (h : b.kind ∈ decisionKinds) (ht : t.events = s.events) :
    DecisionEvents s (emit b t) := (DecisionEvents.of_eq ht).trans (decisionEvents_emit t h)

theorem decisionEvents_releaseOldest (w : WindowIdx) (cause : ReleaseCause) (s : State) :
    DecisionEvents s (releaseOldest w cause s) := by
  unfold releaseOldest
  split
  · exact .refl s
  · simp only
    split
    · exact decisionEvents_emit_of_eq (by simp [decisionKinds]) rfl
    · exact (decisionEvents_emit_of_eq (by simp [decisionKinds]) rfl).trans (.of_eq (raiseTrigger_events _))

theorem decisionEvents_reclaimLoop (w : WindowIdx) (n : Nat) (s : State) : DecisionEvents s (reclaimLoop w n s) := by
  induction n generalizing s with
  | zero => exact .refl s
  | succ n ih =>
    unfold reclaimLoop
    split
    · exact (decisionEvents_releaseOldest w _ s).trans (ih _)
    · exact .refl s

theorem decisionEvents_makeRoom (w : WindowIdx) (s : State) : DecisionEvents s (makeRoom w s) := by
  unfold makeRoom
  split
  · exact decisionEvents_reclaimLoop w _ s
  · exact .refl s

theorem decisionEvents_turnedAway (w : WindowIdx) (q : Requester) (l : Line) (s : State) :
    DecisionEvents s (turnedAway w q l s) := by
  unfold turnedAway
  simp only
  split
  · exact .refl s
  · exact decisionEvents_emit_of_eq (by simp [decisionKinds]) rfl

theorem decisionEvents_reserve (w : WindowIdx) (s : State) : DecisionEvents s (reserve w s) := by
  unfold reserve
  simp only
  split
  · exact decisionEvents_emit_of_eq (by simp [decisionKinds]) rfl
  · exact .of_eq rfl

theorem decisionEvents_placeCapture (k : SlotIdx) (w : WindowIdx) (c : ReqClass) (r : SysRequest) (s : State) :
    DecisionEvents s (placeCapture k w c r s) := (decisionEvents_reserve w s).trans (.of_eq rfl)

theorem decisionEvents_answerFault (r : SysRequest) (s : State) : DecisionEvents s (answerFault r s) :=
  .of_eq (answer_events ..)

theorem decisionEvents_forward (r : SysRequest) (s : State) : DecisionEvents s (forward r s) := .of_eq rfl

theorem decisionEvents_ringFullOutcome (w : WindowIdx) (r : SysRequest) (s : State) :
    DecisionEvents s (ringFullOutcome w r s).2 := by
  have h := decisionEvents_turnedAway w r.requester r.line s
  unfold ringFullOutcome
  simp only
  split
  · exact h
  · exact h.trans (decisionEvents_answerFault r _)
  · exact h.trans (decisionEvents_answerFault r _)

theorem decisionEvents_captureSetUp (w : WindowIdx) (c : ReqClass) (r : SysRequest) (s : State) :
    DecisionEvents s (captureSetUp w c r s).2 := by
  unfold captureSetUp
  split
  · exact .refl s
  · simp only
    split
    · exact (decisionEvents_makeRoom w s).trans (decisionEvents_ringFullOutcome w r _)
    · exact (decisionEvents_makeRoom w s).trans (decisionEvents_placeCapture _ w c r _)

theorem decisionEvents_placeArmed (w : WindowIdx) (c : ReqClass) (r : SysRequest) (s : State) :
    DecisionEvents s (placeArmed w c r s).2 := by
  unfold placeArmed
  split
  · split
    · exact (decisionEvents_forward r s).trans (.of_eq (modWindow_events ..))
    · exact decisionEvents_captureSetUp w c r s
  · exact decisionEvents_forward r s

theorem decisionEvents_placeOpen (older : List ParkEntry) (armed : Option (WindowIdx × ReqClass)) (r : SysRequest)
    (s : State) : DecisionEvents s (placeOpen older armed r s).2 := by
  unfold placeOpen
  split
  · exact .refl s
  · split
    · exact decisionEvents_forward r s
    · exact decisionEvents_placeArmed _ _ r s

theorem decisionEvents_fenced (w : WindowIdx) (r : SysRequest) (s : State) : DecisionEvents s (fenced w r s).2 := by
  unfold fenced
  split
  · exact .refl s
  · exact decisionEvents_answerFault r s

theorem decisionEvents_placementDecision (older : List ParkEntry) (place : Option (WindowIdx × ReqClass)) (r : SysRequest)
    (s : State) : DecisionEvents s (placementDecision older place r s).2 := by
  unfold placementDecision
  split
  · exact decisionEvents_placeOpen older none r s
  · split
    · exact decisionEvents_answerFault r s
    · exact decisionEvents_fenced _ r s
    · exact decisionEvents_fenced _ r s
    all_goals exact decisionEvents_placeOpen older _ r s

theorem decisionEvents_decideFresh (older : List ParkEntry) (r : SysRequest) (s : State) :
    DecisionEvents s (decideFresh older r s).2.2 := by
  unfold decideFresh
  split
  · exact (decisionEvents_answerFault r s).trans (decisionEvents_emit _ (by simp [decisionKinds, trespassEvent]))
  · exact (decisionEvents_answerFault r s).trans (decisionEvents_emit _ (by simp [decisionKinds, deniedEvent]))
  · exact decisionEvents_placementDecision older none r s
  · exact decisionEvents_placementDecision older _ r s

/-- An arrival whose tag is not admitted produces no event but those of its decision; as the waiting arrival it produces
none (R118, log 9). -/
theorem decisionEvents_arrive {r : SysRequest} {s : State} (h : (r.requester, r.tag) ∉ s.admitted) :
    DecisionEvents s (arrive r s) := by
  by_cases hw : emptyWrite r = true
  · rw [arrive_of_emptyWrite h hw]
    exact .of_eq (respond_events _ _)
  · have hd : DecisionEvents s (decideFresh s.park r (takeIn r s)).2.2 :=
      (DecisionEvents.of_eq rfl).trans (decisionEvents_decideFresh s.park r (takeIn r s))
    unfold arrive
    rw [if_neg (mt List.contains_iff_mem.mp h), if_neg hw]
    split
    next hv =>
      rw [hv] at hd
      exact hd
    next hv =>
      rw [hv] at hd
      split
      · exact hd.trans (.of_eq rfl)
      · exact .of_eq rfl

/-! ### O28 -/

/-- Settles O28: the two answers are the first two branches of an arrival (R106, R107); TAG_REUSE is not among the kinds of
event that a decision can produce. -/
theorem aReusedTagAndAnEmptyWriteAreAnsweredAtOnce : Obligations.AReusedTagAndAnEmptyWriteAreAnsweredAtOnce := by
  intro r s hp hs hw hl ho
  rw [exec_systemRequest_arrive r hp hs hw hl ho]
  refine ⟨fun hm => ?_, fun hn => ⟨_, rfl, fun e he hnew hk => ?_⟩, fun data hn hop => ?_⟩
  · rw [arrive_of_reuse hm]
    rfl
  · have hkind := decisionEvents_arrive hn e he hnew
    rw [hk] at hkind
    exact absurd hkind (by decide)
  · rw [arrive_of_emptyWrite hn (emptyWrite_of_noEnable hop)]
    rfl

end Sys2Proof.Machine
end

section
/-! The management commands SET_CLASS, READ_EVENT and SET_PORT, and a frame error (R145, R154, R164, R165): what each decides,
and what it leaves in the state. The codes of their parameters come first. -/

namespace Sys2Proof.Machine

open Sys2Proof

/-! ### Codes of parameters -/

theorem requesterOfByte_ofNat (r : Requester) : requesterOfByte (BitVec.ofNat 8 r.val) = some r := by revert r; decide

theorem requesterOfByte_of_large {b : Byte} (h : 63 < b.toNat) : requesterOfByte b = none :=
  dif_neg (Nat.not_lt.mpr h)

theorem classOfByte_code (c : ReqClass) : classOfByte c.code = some c := by cases c <;> rfl

theorem classOfByte_of_no_code {b : Byte} (h : ∀ c : ReqClass, b ≠ c.code) : classOfByte b = none :=
  (if_neg (h .lead)).trans ((if_neg (h .background)).trans (if_neg (h .readOnly)))

theorem onOffOfByte_flagByte (a : Bool) : onOffOfByte (flagByte a) = some a := by cases a <;> rfl

theorem onOffOfByte_of_no_code {b : Byte} (h : ∀ a, b ≠ flagByte a) : onOffOfByte b = none :=
  (if_neg (h false)).trans (if_neg (h true))

/-! ### A command and its decision -/

/-- Once the decision of a command is known, so is the state after it. -/
theorem takeCommand_of_decision {s t : State} {reply : Reply} {decision : State → Reply × State} (hp : s.por = false)
    (echo : Byte) (hd : decision s = (reply, t)) :
    takeCommand echo decision s = taken reply.status echo reply.data s t := by
  rw [takeCommand_on hp, hd]

/-! ### SET_CLASS (R154) -/

theorem exec_setClass {s t : State} {w : WindowIdx} {requester cls : Byte} {reply : Reply} (hp : s.por = false)
    (hd : decideSetClass requester cls w s = (reply, t)) :
    exec (.setClass (windowByte w) requester cls) s = .next (taken reply.status 0x05 reply.data s t) :=
  congrArg _ (takeCommand_of_decision hp 0x05 ((onWindow_windowByte w _ s).trans hd))

theorem decideSetClass_of_unused (requester cls : Byte) {w : WindowIdx} {s : State} (hu : (s.window w).state = .unused) :
    decideSetClass requester cls w s = refuse .badState s := if_pos hu

theorem decideSetClass_of_codes {requester cls : Byte} {w : WindowIdx} {s : State} {r : Requester} {c : ReqClass}
    (hu : (s.window w).state ≠ .unused) (hr : requesterOfByte requester = some r) (hc : classOfByte cls = some c) :
    decideSetClass requester cls w s =
      ({ status := .done, data := [requester, c.code, ((s.window w).classOf r).code] },
        s.modWindow w (fun v => { v with classes := v.classes.set r c })) := by
  simp only [decideSetClass, if_neg hu, hr, hc]

theorem decideSetClass_of_no_requester {requester : Byte} (cls : Byte) {w : WindowIdx} {s : State}
    (hu : (s.window w).state ≠ .unused) (hr : requesterOfByte requester = none) :
    decideSetClass requester cls w s = refuse .badParam s := by
  simp only [decideSetClass, if_neg hu, hr]

theorem decideSetClass_of_no_class (requester : Byte) {cls : Byte} {w : WindowIdx} {s : State}
    (hu : (s.window w).state ≠ .unused) (hc : classOfByte cls = none) :
    decideSetClass requester cls w s = refuse .badParam s := by
  simp only [decideSetClass, if_neg hu, hc]
  cases requesterOfByte requester <;> rfl

/-- A class that is given anew to the requester that holds it leaves the state as it is. -/
theorem setWindow_same_class (s : State) (w : WindowIdx) (r : Requester) :
    s.setWindow w { s.window w with classes := (s.window w).classes.set r (s.window w).classes[r] } = s := by
  have hc : (s.window w).classes.set r (s.window w).classes[r] = (s.window w).classes := Vector.set_getElem_self r.isLt
  rw [hc]
  exact setWindow_window s w

/-- Settles O9: the four cases of the decision; a class already held is the case of two codes with nothing new to write. -/
theorem setClassSetsOneClass : Obligations.SetClassSetsOneClass := by
  have hset (w : WindowIdx) (r : Requester) (c : ReqClass) (s : State) (hp : s.por = false)
      (hu : (s.window w).state ≠ .unused) :
      exec (.setClass (windowByte w) (BitVec.ofNat 8 r.val) c.code) s = .next (taken .done 0x05
        [BitVec.ofNat 8 r.val, c.code, ((s.window w).classes[r]).code] s
        (s.setWindow w { s.window w with classes := (s.window w).classes.set r c })) :=
    exec_setClass hp (decideSetClass_of_codes hu (requesterOfByte_ofNat r) (classOfByte_code c))
  refine ⟨hset, fun w r s hp hu => ?_, fun w requester cls s hp hu hbad => ?_, fun w requester cls s hp hu => ?_⟩
  · rw [hset w r _ s hp hu, setWindow_same_class]
  · rcases hbad with hr | hc
    · exact exec_setClass hp (decideSetClass_of_no_requester cls hu (requesterOfByte_of_large hr))
    · exact exec_setClass hp (decideSetClass_of_no_class requester hu (classOfByte_of_no_code hc))
  · exact exec_setClass hp (decideSetClass_of_unused requester cls hu)

/-! ### SET_PORT (R165) -/

theorem exec_setPort {s t : State} {timeout : BitVec 16} {attention : Byte} {reply : Reply} (hp : s.por = false)
    (hd : decideSetPort timeout attention s = (reply, t)) :
    exec (.setPort timeout attention) s = .next (taken reply.status 0x10 reply.data s t) :=
  congrArg _ (takeCommand_of_decision hp 0x10 hd)

theorem decideSetPort_of_zero (attention : Byte) (s : State) : decideSetPort 0 attention s = refuse .badParam s :=
  if_pos rfl

theorem decideSetPort_of_code {timeout : BitVec 16} {attention : Byte} {a : Bool} (s : State) (ht : timeout ≠ 0)
    (ha : onOffOfByte attention = some a) :
    decideSetPort timeout attention s =
      ({ status := .done, data := leBytes 2 timeout.toNat ++ [flagByte a] },
        { s with timeout := timeout, attnEnable := a }) := by
  simp only [decideSetPort, if_neg ht, ha]

theorem decideSetPort_of_no_code (timeout : BitVec 16) {attention : Byte} (s : State) (ha : onOffOfByte attention = none) :
    decideSetPort timeout attention s = refuse .badParam s := by
  simp only [decideSetPort, ha, ite_self]

/-- Settles O18: the cases of the decision, and two fields of the state after reset. -/
theorem setPortSetsBothValues : Obligations.SetPortSetsBothValues := by
  refine ⟨fun timeout a s hp ht => ?_, fun timeout attention s hp hbad => ?_, rfl, rfl⟩
  · exact exec_setPort hp (decideSetPort_of_code s ht (onOffOfByte_flagByte a))
  · rcases hbad with rfl | ha
    · exact exec_setPort hp (decideSetPort_of_zero attention s)
    · exact exec_setPort hp (decideSetPort_of_no_code timeout s (onOffOfByte_of_no_code ha))

/-! ### FRAME_ERROR (R145) -/

theorem exec_frameError {s : State} {bits : List Bool} (hp : s.por = false) (hg : frameIsGood bits = false) :
    exec (.frameError bits) s = 
      .next { s with held := (responseFrame .frameError 0x00 s.cmdNumber
        [(frameReason bits).code, BitVec.ofNat 8 (wholeBytes bits)]) } := by
  have he : exec (.frameError bits) s = .next (unlessPor (frameErrorEffect bits) s) := rfl
  rw [he]
  simp [unlessPor, frameErrorEffect, hp, hg]

theorem frameReason_of_short {bits : List Bool} (h : bits.length < 128) : frameReason bits = .short := if_pos h

theorem frameReason_of_long {bits : List Bool} (h : 128 < bits.length) : frameReason bits = .long :=
  (if_neg (Nat.not_lt_of_gt h)).trans (if_pos h)

theorem frameReason_of_whole {bits : List Bool} (h : bits.length = 128) : frameReason bits = .crc := by
  simp [frameReason, h]

/-- Settles O19: the reason is the model's own, by the length of the transfer. -/
theorem frameErrorReplacesTheHeldResponse : Obligations.FrameErrorReplacesTheHeldResponse :=
  fun bits _ hp hg => ⟨frameReason bits, exec_frameError hp hg, frameReason_of_short, frameReason_of_long,
    frameReason_of_whole⟩

/-! ### READ_EVENT (R164) -/

theorem exec_readEvent {s t : State} {reply : Reply} (hp : s.por = false) (hd : decideReadEvent s = (reply, t)) :
    exec .readEvent s = .next (taken reply.status 0x0F reply.data s t) :=
  congrArg _ (takeCommand_of_decision hp 0x0F hd)

theorem decideReadEvent_of_cons {s : State} {e : Event} {rest : List Event} (h : s.events = e :: rest) :
    decideReadEvent s =
      ({ status := .done, data := eventBytes e ++ [flagByte s.lost, BitVec.ofNat 8 rest.length] },
        { s with events := rest, lost := false }) := by
  simp only [decideReadEvent, h]

theorem decideReadEvent_of_nil {s : State} (h : s.events = []) :
    decideReadEvent s =
      ({ status := .empty, data := List.replicate 46 0 ++ [flagByte s.lost, 0] }, { s with lost := false }) := by
  simp only [decideReadEvent, h, padTo_nil]

theorem attnDrivenLow_iff {s : State} (hp : s.por = false) :
    attnDrivenLow s = true ↔ 0 < s.events.length ∧ s.attnEnable = true := by
  simp [attnDrivenLow, attentionAsserted, hp, List.length_pos_iff]

/-- READ_EVENT leaves the tail of the queue; the pin and the enable that the attention line looks at stay (R164, R177). -/
theorem exec_readEvent_leaves {s t : State} (hp : s.por = false) (h : exec .readEvent s = .next t) :
    t.events = s.events.tail ∧ t.attnEnable = s.attnEnable ∧ t.por = false := by
  cases he : s.events with
  | nil =>
    rw [exec_readEvent hp (decideReadEvent_of_nil he)] at h
    obtain rfl := Host.Outcome.next.inj h
    exact ⟨he, rfl, hp⟩
  | cons e rest =>
    rw [exec_readEvent hp (decideReadEvent_of_cons he)] at h
    obtain rfl := Host.Outcome.next.inj h
    exact ⟨rfl, rfl, hp⟩

theorem attnDrivenLow_readEvent {s t : State} (hp : s.por = false) (h : exec .readEvent s = .next t) :
    attnDrivenLow t = true ↔ 1 < s.events.length ∧ s.attnEnable = true := by
  obtain ⟨hevents, henable, hpor⟩ := exec_readEvent_leaves hp h
  rw [attnDrivenLow_iff hpor, hevents, henable, List.length_tail, Nat.sub_pos_iff_lt]

/-! ### The layout of an event record (R189) -/

/-- The fields of an event record, in the order in which they stand. -/
def eventFields (e : Event) : List (List Byte) :=
  let b := e.body
  [[b.kind.code], [BitVec.ofNat 8 (flagBit b.window.isSome 0 + flagBit b.generation.isSome 1)],
    leBytes 2 (detailPresence b), leBytes 2 e.serial.toNat, opt1 (b.window.map (fun w => BitVec.ofNat 8 w.val)),
    opt4 b.generation, opt1 (b.cause.map Cause.code), opt1 (b.requester.map (fun r => BitVec.ofNat 8 r.val)), opt1 b.tag,
    optLine b.line, opt4 (b.sequence.map BitVec.toNat), opt1 (b.source.map Source.code), opt1 (b.targetMoved.map flagByte),
    opt1 (b.exhausted.map flagByte), opt4 b.occupancy, opt4 b.target, opt4 b.restored, opt4 b.skipped, opt4 b.remaining]

/-- How many bytes each field of an event record has. -/
def eventWidths : List Nat := [1, 1, 2, 2, 1, 4, 1, 1, 1, 5, 4, 1, 1, 1, 4, 4, 4, 4, 4]

theorem flatten_eventFields (e : Event) : (eventFields e).flatten = eventBytes e := by
  simp [eventFields, eventBytes]

theorem length_eventFields (e : Event) : (eventFields e).map List.length = eventWidths := rfl

/-- The bytes of a field: as many as it is wide, behind those of the fields before it. -/
theorem eventBytes_field {e : Event} {f : List Byte} (k : Nat) {first n : Nat} (hf : (eventFields e)[k]? = some f)
    (hfirst : (eventWidths.take k).sum = first) (hn : eventWidths[k]? = some n) :
    ((eventBytes e).drop first).take n = f := by
  have hlen : f.length = n := by
    rw [← length_eventFields e, List.getElem?_map, hf] at hn
    exact Option.some.inj hn
  obtain ⟨hk, hget⟩ := List.getElem?_eq_some_iff.mp hf
  rw [← flatten_eventFields, ← hfirst, ← length_eventFields e, List.drop_sum_flatten, List.drop_eq_getElem_cons hk, hget,
    List.flatten_cons, List.take_left' hlen]

/-! ### The numbers that fields spell -/

theorem leValue_singleton (b : Byte) : leValue [b] = b.toNat := rfl

theorem leValue_leBytes_of_lt {n x : Nat} (h : x < 256 ^ n) : leValue (leBytes n x) = x := by
  rw [leValue_leBytes, Nat.mod_eq_of_lt h]

theorem leValue_opt4 (o : Option Nat) : leValue (opt4 o) = o.getD 0 % 2 ^ 32 := leValue_leBytes 4 _

theorem leValue_opt4_toNat (o : Option Seq) : leValue (opt4 (o.map BitVec.toNat)) = (o.map BitVec.toNat).getD 0 := by
  cases o with
  | none => rfl
  | some q => exact leValue_leBytes_of_lt q.isLt

/-- An optional byte that codes a number spells that number. -/
theorem leValue_opt1_map {α : Type} {f : α → Byte} {g : α → Nat} (h : ∀ a, (f a).toNat = g a) (o : Option α) :
    leValue (opt1 (o.map f)) = (o.map g).getD 0 := by
  cases o with
  | none => rfl
  | some a => exact h a

theorem leValue_opt1 (o : Option Byte) : leValue (opt1 o) = (o.map BitVec.toNat).getD 0 := by
  cases o <;> rfl

theorem leValue_opt1_flag (o : Option Bool) : leValue (opt1 (o.map flagByte)) = (o.getD false).toNat := by
  cases o with
  | none => rfl
  | some a => cases a <;> rfl

/-- A line address fits in 40 bits. -/
theorem leValue_optLine (o : Option Line) : leValue (optLine o) = (o.map Line.addr).getD 0 := by
  cases o with
  | none => rfl
  | some l =>
    refine leValue_leBytes_of_lt ?_
    have hl := l.isLt
    simp only [Option.map_some, Option.getD_some, Line.addr]
    omega

theorem toNat_ofNat_of_lt {n x : Nat} (h : x < 2 ^ n) : (BitVec.ofNat n x).toNat = x := by
  rw [BitVec.toNat_ofNat, Nat.mod_eq_of_lt h]

/-! ### The presence bits -/

theorem flagBit_eq (b : Bool) (i : Nat) : flagBit b i = 2 ^ i * b.toNat := by cases b <;> simp [flagBit]

/-- Byte 1: the presence of a window and of a generation number. -/
theorem leValue_presence (a b : Bool) :
    leValue [BitVec.ofNat 8 (flagBit a 0 + flagBit b 1)] = a.toNat + 2 * b.toNat := by
  cases a <;> cases b <;> rfl

/-- Bytes 2 and 3: the thirteen bits of the detail items, by their weights. -/
theorem detailPresence_eq (b : EventBody) :
    detailPresence b = b.cause.isSome.toNat + 2 * b.requester.isSome.toNat + 4 * b.tag.isSome.toNat +
      8 * b.line.isSome.toNat + 16 * b.sequence.isSome.toNat + 32 * b.source.isSome.toNat +
      64 * b.occupancy.isSome.toNat + 128 * b.target.isSome.toNat + 256 * b.targetMoved.isSome.toNat +
      512 * b.exhausted.isSome.toNat + 1024 * b.restored.isSome.toNat + 2048 * b.skipped.isSome.toNat +
      4096 * b.remaining.isSome.toNat := by
  simp [detailPresence, flagBit_eq]

/-- A presence bit adds no more than its weight. -/
theorem flagBit_le (b : Bool) (i : Nat) : flagBit b i ≤ 2 ^ i := by cases b <;> simp [flagBit]

theorem detailPresence_lt (b : EventBody) : detailPresence b < 2 ^ 16 :=
  calc detailPresence b
    _ ≤ 2 ^ 0 + 2 ^ 1 + 2 ^ 2 + 2 ^ 3 + 2 ^ 4 + 2 ^ 5 + 2 ^ 6 + 2 ^ 7 + 2 ^ 8 + 2 ^ 9 + 2 ^ 10 + 2 ^ 11 + 2 ^ 12 := by
      unfold detailPresence
      gcongr <;> exact flagBit_le _ _
    _ < 2 ^ 16 := by decide

/-- Settles O17: the two cases of the decision; each field of the record stands behind the widths of those before it and
spells its item. -/
theorem readEventTakesTheOldestEvent : Obligations.ReadEventTakesTheOldestEvent := by
  refine ⟨fun e rest s hp h => exec_readEvent hp (decideReadEvent_of_cons h),
    fun s hp h => exec_readEvent hp (decideReadEvent_of_nil h), fun s t hp h => attnDrivenLow_readEvent hp h, ?_⟩
  rintro e b at_ rfl hat
  have field (k : Nat) {first last : Nat} {f : List Byte} {x : Nat} (hf : (eventFields e)[k]? = some f)
      (hfirst : (eventWidths.take k).sum = first) (hn : eventWidths[k]? = some (last + 1 - first)) (hx : leValue f = x) :
      at_ first last = x := by
    rw [hat, eventBytes_field k hf hfirst hn, hx]
  exact ⟨eventBytes_length e,
    field 0 rfl rfl rfl (leValue_singleton _),
    field 1 rfl rfl rfl (leValue_presence _ _),
    field 2 rfl rfl rfl ((leValue_leBytes_of_lt (detailPresence_lt _)).trans (detailPresence_eq _)),
    field 3 rfl rfl rfl (leValue_leBytes_of_lt e.serial.isLt),
    field 4 rfl rfl rfl (leValue_opt1_map (fun w => toNat_ofNat_of_lt (by omega)) _),
    field 5 rfl rfl rfl (leValue_opt4 _),
    field 6 rfl rfl rfl (leValue_opt1_map (fun _ => rfl) _),
    field 7 rfl rfl rfl (leValue_opt1_map (fun r => toNat_ofNat_of_lt (by omega)) _),
    field 8 rfl rfl rfl (leValue_opt1 _),
    field 9 rfl rfl rfl (leValue_optLine _),
    field 10 rfl rfl rfl (leValue_opt4_toNat _),
    field 11 rfl rfl rfl (leValue_opt1_map (fun _ => rfl) _),
    field 12 rfl rfl rfl (leValue_opt1_flag _),
    field 13 rfl rfl rfl (leValue_opt1_flag _),
    field 14 rfl rfl rfl (leValue_opt4 _),
    field 15 rfl rfl rfl (leValue_opt4 _),
    field 16 rfl rfl rfl (leValue_opt4 _),
    field 17 rfl rfl rfl (leValue_opt4 _),
    field 18 rfl rfl rfl (leValue_opt4 _)⟩

end Sys2Proof.Machine
end

section
/-! The event queue and the attention line (R171 to R173, R177, R178): an event finds room or it is lost, and the line looks at
the queue, the attention enable and POR. -/

namespace Sys2Proof.Machine

open Sys2Proof

/-! ### The attention line -/

/-- POR releases the line, whatever the queue and the enable say (R177). -/
theorem attnDrivenLow_of_por {s : State} (hp : s.por = true) : attnDrivenLow s = false := by
  simp [attnDrivenLow, attentionAsserted, hp]

/-- Outside POR the line says that the queue holds a record and attention is on (R178). -/
theorem attnDrivenLow_iff_ne_nil {s : State} (hp : s.por = false) :
    attnDrivenLow s = true ↔ s.events ≠ [] ∧ s.attnEnable = true := by
  rw [attnDrivenLow_iff hp, List.length_pos_iff]

/-! ### O27 -/

/-- Settles O27: the two cases of a produced event, room and a full queue, and the attention line outside POR and under it. -/
theorem eventsAndAttentionFollowTheirRules : Obligations.EventsAndAttentionFollowTheirRules :=
  ⟨⟨emit_of_room, emit_of_full⟩, fun _ => ⟨attnDrivenLow_iff_ne_nil, attnDrivenLow_of_por⟩⟩

end Sys2Proof.Machine
end

section
/-! The generation list of a window (R9, R53), as a law of the list alone, and what closing, releasing, recording and freeing
do to it. -/

namespace Sys2Proof.Machine

open Sys2Proof

/-! ### The law of a list -/

/-- The law of the generation list of a window with a history (R9, R10, R53), apart from its state: numbers rise strictly up to
the last generation number, the newest entry and no other is OPEN, at most one is CLOSING, and the record counts add up. -/
structure ListShape (gens : List GenEntry) (lastGen occupancy : Nat) : Prop where
  rising : (gens.map (·.number)).Pairwise (· < ·)
  bounded : ∀ e ∈ gens, e.number ≤ lastGen
  newestOpen : ∃ older e, gens = older ++ [e] ∧ e.state = .opened ∧ ∀ o ∈ older, o.state ≠ .opened
  oneClosing : (gens.filter (fun e => e.state == .closing)).length ≤ 1
  counted : occupancy = recordSum gens

/-- A list is within its depth, or one above it while its oldest entry is CLOSING (R14). -/
def WithinDepth (depth : Nat) (gens : List GenEntry) : Prop :=
  gens.length ≤ depth ∨ (gens.length = depth + 1 ∧ gens.head?.any (fun e => e.state == .closing) = true)

theorem hasHistory_iff (v : Window) : v.hasHistory ↔ ¬(v.state = .unused ∨ v.state = .defined) := by
  simp [Window.hasHistory]

/-- The law of a window's generation list, by whether the window keeps a history. -/
theorem generationListLaw_iff (v : Window) :
    GenerationListLaw v ↔
      1 ≤ v.depth ∧ (v.hasHistory → ListShape v.gens v.lastGen v.ring.occupancy) ∧ (¬v.hasHistory → v.gens = []) ∧
        (v.state = .armed ∨ v.state = .rewinding ∨ v.state = .paused → WithinDepth v.depth v.gens) := by
  constructor
  · intro h
    exact ⟨h.depthPositive, fun hh => ⟨h.rising, h.bounded, h.newestOpen hh, h.oneClosing, h.counted hh⟩,
      fun hh => h.idle (not_not.mp (mt (hasHistory_iff v).mpr hh)), h.withinDepth⟩
  · rintro ⟨hd, hs, hi, hw⟩
    by_cases hh : v.hasHistory
    · have h := hs hh
      exact ⟨hd, h.rising, h.bounded, fun hu => absurd hu ((hasHistory_iff v).mp hh), fun _ => h.newestOpen, h.oneClosing,
        fun _ => h.counted, hw⟩
    · have h := hi hh
      exact ⟨hd, by simp [h], by simp [h], fun _ => h, fun hu => absurd hu hh, by simp [h], fun hu => absurd hu hh, hw⟩

/-- Two lists with the same numbers and states have the same shape, whatever else their entries hold. -/
theorem ListShape.map {gens : List GenEntry} {lastGen occupancy occupancy' : Nat} {f : GenEntry → GenEntry}
    (h : ListShape gens lastGen occupancy) (hn : ∀ e, (f e).number = e.number) (hs : ∀ e, (f e).state = e.state)
    (hc : occupancy' = recordSum (gens.map f)) : ListShape (gens.map f) lastGen occupancy' where
  rising := by simpa [Function.comp_def, hn] using h.rising
  bounded := by simpa [hn] using h.bounded
  newestOpen := by
    obtain ⟨older, e, rfl, he, ho⟩ := h.newestOpen
    exact ⟨older.map f, f e, by simp, by rw [hs, he], by simpa [hs] using ho⟩
  oneClosing := by simpa [List.filter_map, Function.comp_def, hs] using h.oneClosing
  counted := hc

theorem recordSum_map {f : GenEntry → GenEntry} (h : ∀ e, (f e).recordCount = e.recordCount) (gens : List GenEntry) :
    recordSum (gens.map f) = recordSum gens := by
  simp [recordSum, Function.comp_def, h]

/-- A fresh entry alone. -/
theorem listShape_fresh (n : Nat) : ListShape [GenEntry.fresh n] n 0 where
  rising := by simp
  bounded := by simp [GenEntry.fresh]
  newestOpen := ⟨[], _, rfl, rfl, by simp⟩
  oneClosing := by simp [GenEntry.fresh]
  counted := rfl

/-- A list none of whose entries is OPEN is completed by a fresh entry with the next number. -/
theorem listShape_append_fresh {older : List GenEntry} {lastGen occupancy : Nat}
    (hr : (older.map (·.number)).Pairwise (· < ·)) (hb : ∀ e ∈ older, e.number ≤ lastGen)
    (ho : ∀ e ∈ older, e.state ≠ .opened) (hc : (older.filter (fun e => e.state == .closing)).length ≤ 1)
    (hs : occupancy = recordSum older) :
    ListShape (older ++ [GenEntry.fresh (lastGen + 1)]) (lastGen + 1) occupancy where
  rising := by
    rw [List.map_append, List.pairwise_append]
    refine ⟨hr, by simp, ?_⟩
    intro a ha b hb'
    obtain ⟨e, he, rfl⟩ := List.mem_map.mp ha
    simp only [List.map_cons, List.map_nil, List.mem_singleton] at hb'
    subst hb'
    exact Nat.lt_succ_of_le (hb e he)
  bounded := by
    intro e he
    rcases List.mem_append.mp he with h | h
    · exact Nat.le_succ_of_le (hb e h)
    · simp only [List.mem_singleton] at h
      subst h
      exact le_refl _
  newestOpen := ⟨older, _, rfl, rfl, ho⟩
  oneClosing := by simpa [GenEntry.fresh] using hc
  counted := by simp [hs, recordSum, GenEntry.fresh]

/-! ### Closing, releasing, completing -/

theorem ListShape.mapOpen_eq {gens : List GenEntry} {lastGen occupancy : Nat} (h : ListShape gens lastGen occupancy)
    (f : GenEntry → GenEntry) :
    ∃ older e, gens = older ++ [e] ∧ e.state = .opened ∧ (∀ o ∈ older, o.state ≠ .opened) ∧ mapOpen f gens = older ++ [f e] := by
  obtain ⟨older, e, rfl, he, ho⟩ := h.newestOpen
  exact ⟨older, e, rfl, he, ho, mapOpen_last f he ho⟩

/-- The close of R11: the OPEN entry is closed and the next generation opened. -/
theorem ListShape.close {gens : List GenEntry} {lastGen occupancy : Nat} (h : ListShape gens lastGen occupancy)
    (hc : ∀ e ∈ gens, e.state ≠ .closing) (k : CloseCause) :
    ListShape (mapOpen (GenEntry.closeWith k) gens ++ [GenEntry.fresh (lastGen + 1)]) (lastGen + 1) occupancy := by
  obtain ⟨older, e, rfl, he, ho, hm⟩ := h.mapOpen_eq (GenEntry.closeWith k)
  have hnone : older.filter (fun e => e.state == .closing) = [] := by
    rw [List.filter_eq_nil_iff]
    intro a ha
    simp [hc a (by simp [ha])]
  rw [hm]
  refine listShape_append_fresh (by simpa [GenEntry.closeWith] using h.rising) ?_ ?_ ?_ ?_
  · intro a ha
    rcases List.mem_append.mp ha with h' | h'
    · exact h.bounded a (by simp [h'])
    · simp only [List.mem_singleton] at h'
      subst h'
      exact h.bounded e (by simp)
  · intro a ha
    rcases List.mem_append.mp ha with h' | h'
    · exact ho a h'
    · simp only [List.mem_singleton] at h'
      subst h'
      simp only [GenEntry.closeWith]
      split <;> simp
  · rw [List.filter_append, hnone, List.nil_append]
    exact (List.length_filter_le _ _).trans (by simp)
  · simp [h.counted, recordSum, GenEntry.closeWith]

/-- The oldest entry leaves the list with its records. -/
theorem ListShape.tail {m : GenEntry} {rest : List GenEntry} {lastGen occupancy : Nat}
    (h : ListShape (m :: rest) lastGen occupancy) (hm : m.state = .closed ∨ rest ≠ []) :
    ListShape rest lastGen (occupancy - m.recordCount) where
  rising := (List.pairwise_cons.mp h.rising).2
  bounded := fun e he => h.bounded e (by simp [he])
  newestOpen := by
    obtain ⟨older, e, hg, he, ho⟩ := h.newestOpen
    cases older with
    | nil =>
      simp only [List.nil_append, List.cons.injEq] at hg
      obtain ⟨rfl, rfl⟩ := hg
      simp [he] at hm
    | cons a older =>
      simp only [List.cons_append, List.cons.injEq] at hg
      exact ⟨older, e, hg.2, he, fun o h' => ho o (by simp [h'])⟩
  oneClosing := le_trans (List.Sublist.length_le ((List.sublist_cons_self m rest).filter _)) h.oneClosing
  counted := by
    have := h.counted
    simp only [recordSum, List.map_cons, List.sum_cons] at this
    simp only [recordSum]
    omega

/-- The completion of a rewind (R79): the target and the newer entries give way to a fresh one. -/
theorem ListShape.complete {gens : List GenEntry} {lastGen occupancy : Nat} (h : ListShape gens lastGen occupancy)
    (target : Nat) (hheld : ∃ e ∈ gens, e.number = target) :
    ListShape (olderThan target gens ++ [GenEntry.fresh (lastGen + 1)]) (lastGen + 1)
      (occupancy - recordSum (fromTarget target gens)) := by
  have hsplit := olderThan_append_fromTarget target gens
  have hsub : (olderThan target gens).Sublist gens := List.takeWhile_sublist _
  have hne : fromTarget target gens ≠ [] := by
    obtain ⟨e, he, hn⟩ := hheld
    intro hnil
    have hall := List.dropWhile_eq_nil_iff.mp hnil e he
    simp [hn] at hall
  refine listShape_append_fresh (h.rising.sublist (hsub.map _)) (fun e he => h.bounded e (hsub.subset he)) ?_
    (le_trans (List.Sublist.length_le (hsub.filter _)) h.oneClosing) ?_
  · obtain ⟨older, e, hg, he, ho⟩ := h.newestOpen
    intro a ha
    refine ho a ?_
    have hpre : olderThan target gens <+: older := by
      refine List.prefix_of_prefix_length_le (l₃ := gens) ⟨_, hsplit⟩ ⟨[e], hg.symm⟩ ?_
      have hl := congrArg List.length hsplit
      have hpos := List.length_pos_iff.mpr hne
      rw [hg] at hl hpos
      simp only [List.length_append, List.length_singleton] at hl
      rw [hg]
      omega
    exact hpre.subset ha
  · have hsum : recordSum gens = recordSum (olderThan target gens) + recordSum (fromTarget target gens) := by
      rw [← recordSum_append, hsplit]
    rw [h.counted, hsum]
    omega

/-! ### Recording and freeing -/

/-- A capture is placed: the OPEN entry counts one more record and one more slot. -/
theorem ListShape.capture {gens : List GenEntry} {lastGen occupancy : Nat} (h : ListShape gens lastGen occupancy) (q : Seq) :
    ListShape (mapOpen GenEntry.addSlot (mapOpen (GenEntry.addRecord q) gens)) lastGen (occupancy + 1) := by
  have hcount : occupancy + 1 = recordSum (mapOpen GenEntry.addSlot (mapOpen (GenEntry.addRecord q) gens)) := by
    obtain ⟨older, e, rfl, he, ho, hm⟩ := h.mapOpen_eq (GenEntry.addRecord q)
    rw [hm, mapOpen_last _ (by simpa [GenEntry.addRecord] using he) ho, h.counted]
    simp [recordSum, GenEntry.addSlot, GenEntry.addRecord, Nat.add_assoc]
  have hrec : ListShape (mapOpen (GenEntry.addRecord q) gens) lastGen _ :=
    h.map (fun e => by split <;> rfl) (fun e => by split <;> rfl) rfl
  exact hrec.map (fun e => by split <;> rfl) (fun e => by split <;> rfl) hcount

/-- A slot of an entry is freed. -/
theorem ListShape.lower {gens : List GenEntry} {lastGen occupancy : Nat} (h : ListShape gens lastGen occupancy) (n : Nat) :
    ListShape (mapNumber n (fun e => { e with slotsPending := e.slotsPending - 1 }) gens) lastGen occupancy := by
  refine h.map (fun e => by split <;> rfl) (fun e => by split <;> rfl) ?_
  rw [recordSum_map (fun e => by split <;> rfl), h.counted]

/-- Numbers tell the entries of a list apart. -/
theorem ListShape.number_inj {gens : List GenEntry} {lastGen occupancy : Nat} (h : ListShape gens lastGen occupancy)
    {a b : GenEntry} (ha : a ∈ gens) (hb : b ∈ gens) (hn : a.number = b.number) : a = b :=
  List.inj_on_of_nodup_map (h.rising.imp (fun hlt => ne_of_lt hlt)) ha hb hn

theorem eq_of_length_le_one {α : Type} {l : List α} (h : l.length ≤ 1) {a b : α} (ha : a ∈ l) (hb : b ∈ l) : a = b := by
  match l, h with
  | [x], _ => rw [List.mem_singleton.mp ha, List.mem_singleton.mp hb]

/-- There is one CLOSING entry at most. -/
theorem ListShape.closing_unique {gens : List GenEntry} {lastGen occupancy : Nat} (h : ListShape gens lastGen occupancy)
    {a b : GenEntry} (ha : a ∈ gens) (hb : b ∈ gens) (hac : a.state = .closing) (hbc : b.state = .closing) : a = b :=
  eq_of_length_le_one h.oneClosing (List.mem_filter.mpr ⟨ha, by simp [hac]⟩) (List.mem_filter.mpr ⟨hb, by simp [hbc]⟩)

/-- The CLOSING entry becomes CLOSED: no entry is CLOSING then. -/
theorem ListShape.no_closing {gens : List GenEntry} {lastGen occupancy : Nat} (h : ListShape gens lastGen occupancy)
    {m : GenEntry} (hm : m ∈ gens) (hc : m.state = .closing) :
    ∀ e ∈ mapNumber m.number (fun e => { e with state := .closed }) gens, e.state ≠ .closing := by
  intro e he
  obtain ⟨a, ha, rfl⟩ := List.mem_map.mp he
  split
  · simp
  · rename_i hne
    exact fun hac => hne (congrArg GenEntry.number (h.closing_unique ha hm hac hc))

theorem ListShape.closed {gens : List GenEntry} {lastGen occupancy : Nat} (h : ListShape gens lastGen occupancy)
    {m : GenEntry} (hm : m ∈ gens) (hc : m.state = .closing) :
    ListShape (mapNumber m.number (fun e => { e with state := .closed }) gens) lastGen occupancy where
  rising := by
    have hn : ∀ e : GenEntry, (if e.number = m.number then { e with state := GenState.closed } else e).number = e.number :=
      fun e => by split <;> rfl
    simpa [mapNumber, Function.comp_def, hn] using h.rising
  bounded := by
    intro e he
    obtain ⟨a, ha, rfl⟩ := List.mem_map.mp he
    split <;> exact h.bounded a ha
  newestOpen := by
    obtain ⟨older, e, hg, he, ho⟩ := h.newestOpen
    have hne : e.number ≠ m.number := by
      intro hn
      rw [h.number_inj (by simp [hg]) hm hn, hc] at he
      exact nomatch he
    refine ⟨mapNumber m.number (fun e => { e with state := .closed }) older, e, by simp [hg, mapNumber, hne], he, ?_⟩
    intro o ho'
    obtain ⟨a, ha, rfl⟩ := List.mem_map.mp ho'
    split
    · simp
    · exact ho a ha
  oneClosing := by
    rw [List.filter_eq_nil_iff.mpr]
    · simp
    · exact fun a ha => by simpa using h.no_closing hm hc a ha
  counted := by
    rw [mapNumber, recordSum_map (fun e => by split <;> rfl), h.counted]

end Sys2Proof.Machine
end

section
/-! What one step can do to a window: its record, with the generations of the busy slots that name it, moves in one of the ways
below. The laws of windows are laws of these moves. -/

namespace Sys2Proof.Machine

open Sys2Proof

/-! ### Releases in one record -/

/-- The record after the release of its oldest entry (R15, R60). -/
def Window.released (v : Window) : Window :=
  match v.gens with
  | [] => v
  | m :: rest => { v with gens := rest, ring := v.ring.released v.capacity v.highThreshold m.recordCount }

/-- The record after so many releases under the depth rule (R14). -/
def Window.trim : Nat → Window → Window
  | 0, v => v
  | n + 1, v => if v.depth < v.gens.length ∧ v.oldestClosed = true then Window.trim n v.released else v

/-- The record after the depth rule (R14). -/
def Window.trimmed (v : Window) : Window := v.trim v.gens.length

theorem Window.released_cons {v : Window} {m : GenEntry} {rest : List GenEntry} (h : v.gens = m :: rest) :
    v.released = { v with gens := rest, ring := v.ring.released v.capacity v.highThreshold m.recordCount } := by
  simp only [Window.released, h]

theorem window_releaseOldest (w : WindowIdx) (cause : ReleaseCause) (s : State) :
    (releaseOldest w cause s).window w = (s.window w).released := by
  cases h : (s.window w).gens with
  | nil => simp only [releaseOldest, Window.released, h]
  | cons m rest => rw [releaseOldest_window w cause s h, Window.released_cons h]

theorem Window.oldestClosed_iff (v : Window) :
    v.oldestClosed = true ↔ ∃ m rest, v.gens = m :: rest ∧ m.state = .closed := by
  cases h : v.gens <;> simp [Window.oldestClosed, h]

/-- What one release of a CLOSED oldest entry keeps, the depth rule keeps. -/
theorem Window.trim_induction {P : Window → Prop}
    (hP : ∀ v m rest, v.gens = m :: rest → m.state = .closed → P v → P v.released) (n : Nat) (v : Window) (hv : P v) :
    P (v.trim n) := by
  induction n generalizing v with
  | zero => exact hv
  | succ n ih =>
    unfold Window.trim
    split
    · rename_i hd
      obtain ⟨m, rest, hg, hm⟩ := v.oldestClosed_iff.mp hd.2
      exact ih _ (hP v m rest hg hm hv)
    · exact hv

/-- The depth rule changes the list and the ring state alone. -/
theorem Window.trimmed_rest (v : Window) : v.trimmed = { v with gens := v.trimmed.gens, ring := v.trimmed.ring } := by
  refine Window.trim_induction (P := fun u => u = { v with gens := u.gens, ring := u.ring }) ?_ _ v rfl
  intro u m rest hg _ hu
  rw [Window.released_cons hg]
  rw [hu]

theorem Window.trimmed_gens_suffix (v : Window) : v.trimmed.gens <:+ v.gens := by
  refine Window.trim_induction (P := fun u => u.gens <:+ v.gens) ?_ _ v (List.suffix_refl _)
  intro u m rest hg _ hu
  rw [Window.released_cons hg]
  exact ((List.suffix_cons m rest).trans (hg ▸ List.suffix_refl _)).trans hu

/-- The depth rule goes on while the list is too long and its oldest entry CLOSED. -/
theorem Window.trimmed_done (v : Window) : ¬(v.depth < v.trimmed.gens.length ∧ v.trimmed.oldestClosed = true) := by
  have hdone : ∀ (n : Nat) (u : Window), u.gens.length ≤ n → u.depth = v.depth →
      ¬(v.depth < (u.trim n).gens.length ∧ (u.trim n).oldestClosed = true) := by
    intro n
    induction n with
    | zero =>
      intro u hu _ hc
      simp only [Window.trim] at hc
      omega
    | succ n ih =>
      intro u hu hd
      unfold Window.trim
      split
      · rename_i hc
        obtain ⟨m, rest, hg, -⟩ := u.oldestClosed_iff.mp hc.2
        have hrel := Window.released_cons hg
        exact ih _ (by rw [hrel]; rw [hg] at hu; simpa using hu) (by rw [hrel]; exact hd)
      · rename_i hc
        rw [← hd]
        exact hc
  exact hdone _ v le_rfl rfl

theorem RingState.released_occupancy (r : RingState) (capacity high c : Nat) :
    (r.released capacity high c).occupancy = r.occupancy - c := by
  unfold RingState.released
  split
  · rename_i hc
    simp [hc]
  · rfl

theorem Window.trimmed_shape {v : Window} (h : ListShape v.gens v.lastGen v.ring.occupancy) :
    ListShape v.trimmed.gens v.lastGen v.trimmed.ring.occupancy := by
  refine Window.trim_induction (P := fun u => ListShape u.gens v.lastGen u.ring.occupancy) ?_ _ v h
  intro u m rest hg hm hu
  rw [Window.released_cons hg]
  simp only [RingState.released_occupancy]
  rw [hg] at hu
  exact hu.tail (.inl hm)

/-- The depth rule brings a list that is at most one above its depth within it. -/
theorem Window.trimmed_within {v : Window} (h : ListShape v.gens v.lastGen v.ring.occupancy) (hd : 1 ≤ v.depth)
    (hl : v.gens.length ≤ v.depth + 1) : WithinDepth v.depth v.trimmed.gens := by
  have hs := Window.trimmed_shape h
  have hle := v.trimmed_gens_suffix.length_le
  by_cases hlen : v.trimmed.gens.length ≤ v.depth
  · exact .inl hlen
  · refine .inr ⟨by omega, ?_⟩
    obtain ⟨older, e, hg, he, ho⟩ := hs.newestOpen
    have hopen := v.trimmed_done
    cases hgens : v.trimmed.gens with
    | nil => simp [hgens] at hlen
    | cons m rest =>
      have hclosed : m.state ≠ .closed := fun hc =>
        hopen ⟨by omega, v.trimmed.oldestClosed_iff.mpr ⟨m, rest, hgens, hc⟩⟩
      have hopened : m.state ≠ .opened := by
        cases older with
        | nil =>
          rw [hg] at hlen
          simp at hlen
          omega
        | cons a older =>
          rw [hg] at hgens
          simp only [List.cons_append, List.cons.injEq] at hgens
          rw [← hgens.1]
          exact ho a (by simp)
      cases hm : m.state with
      | opened => exact absurd hm hopened
      | closed => exact absurd hm hclosed
      | closing => simp [hm]

/-! ### The moves of a window -/

/-- The record once a slot of generation `n` is freed (R31). -/
def Window.lowered (n : Nat) (v : Window) : Window :=
  { v with gens := mapNumber n (fun e => { e with slotsPending := e.slotsPending - 1 }) v.gens }

/-- The record once its CLOSING entry is CLOSED (R13), with the depth rule where the window is ARMED or REWINDING. -/
def Window.closingDone (m : GenEntry) (v : Window) : Window :=
  let u := { v with gens := mapNumber m.number (fun e => { e with state := .closed }) v.gens }
  if v.state = .armed ∨ v.state = .rewinding then u.trimmed else u

/-- The record once a capture is placed (R30, R51). -/
def Window.captured (v : Window) : Window :=
  { v with
    ring := v.ring.reserved v.capacity v.highThreshold
    gens := mapOpen GenEntry.addSlot (mapOpen (GenEntry.addRecord v.ring.nextSeq) v.gens) }

/-- The record cut back to where a rewind stops, with a fresh generation (R61, R79). -/
def Window.cutBack (c : RewindContext) (f : StopFields) (v : Window) : Window :=
  { v with
    ring := v.ring.truncated v.capacity v.highThreshold f.stopPosition (recordSum (fromTarget c.target v.gens)) f.stopSequence
    gens := olderThan c.target v.gens ++ [GenEntry.fresh (v.lastGen + 1)]
    lastGen := v.lastGen + 1 }

/-- The record once a rewind with the context `c` and the stop fields `f` is complete (R79, R80). -/
def Window.rewound (c : RewindContext) (f : StopFields) (v : Window) : Window :=
  { (v.cutBack c f).trimmed with state := .armed, rewind := none }

/-- One move of a window: from the record `v` and the generations `g` of the busy slots that name the window, to a record and
generations. -/
inductive WindowMove (v : Window) (g : Multiset Nat) : Window → Multiset Nat → Prop where
  | define (base size : BitVec 40) (h : v.state = .unused ∨ v.state = .defined) : WindowMove v g (v.afterDefine base size) g
  | delete (h : v.state = .defined) : WindowMove v g { Window.afterPor with ring := v.ring } g
  | configure (f : FenceMode) (p : RingPolicy) (d reload : Nat) (q : QuietTick) (a : Bool) (h : v.state = .defined)
      (hd : 1 ≤ d) : WindowMove v g { v with fence := f, policy := p, depth := d, quietReload := reload, quietTick := q, autoClose := a } g
  | bind (b : RingBinding) (h : v.state = .defined) : WindowMove v g { v with binding := some b } g
  | setClass (c : Vector ReqClass 64) : WindowMove v g { v with classes := c } g
  | arm (h : v.state = .defined) : WindowMove v g v.armedFresh g
  | time (t : QuietTimer) (p : Bool) (h : t.running = true → v.state = .armed ∨ v.timer.running = true) :
      WindowMove v g { v with timer := t, quietClosePending := p } g
  | close (k : CloseCause) (h : v.state = .armed) (hc : v.hasClosing = false) : WindowMove v g (v.closedBy k).trimmed g
  | release (m : GenEntry) (rest : List GenEntry) (h : v.state = .armed) (hg : v.gens = m :: rest)
      (hc : m.state = .closed ∨ (m.state ≠ .closing ∧ rest ≠ [])) : WindowMove v g v.released g
  | ringFull (h : v.state = .armed) : WindowMove v g { v with ring := { v.ring with full := true } } g
  | rewind (n : Nat) (h : v.state = .armed) :
      WindowMove v g { v.quietStopped with state := .rewinding, rewind := some (RewindContext.accepted n) } g
  | context (c c' : RewindContext) (h : v.rewind = some c) (ht : c'.target = c.target)
      (hs : c'.stop.isSome = c.stop.isSome) : WindowMove v g { v with rewind := some c' } g
  | drained (c : RewindContext) (f : StopFields) (h : v.state = .rewinding) (hc : v.rewind = some c) (hg : g = 0) :
      WindowMove v g { v with rewind := some { c.checkTarget v.gens with stop := some f } } g
  | pause (c c' : RewindContext) (h : v.state = .rewinding) (hc : v.rewind = some c) (hs : c.stop.isSome = true)
      (ht : c'.target = c.target) : WindowMove v g { v with state := .paused, rewind := some c' } g
  | resume (h : v.state = .paused) :
      WindowMove v g { v with state := .rewinding, rewind := v.rewind.map (fun c => { c with phase := .walk }) } g
  | rewound (c : RewindContext) (f : StopFields) (h : v.state = .rewinding) (hc : v.rewind = some c) (hs : c.stop = some f) :
      WindowMove v g (v.rewound c f) g
  | disarming (h : v.hasHistory) : WindowMove v g { v.quietStopped with state := .disarming } g
  | disarmed (h : v.hasHistory) (hg : g = 0) : WindowMove v g v.disarmed g
  | faulted (r : FaultRecord) (h : v.state = .armed ∨ v.state = .rewinding) :
      WindowMove v g { v.quietStopped with state := .faulted, fault := some r } g
  | capture (h : v.state = .armed) (hr : v.ring.occupancy < v.capacity) : WindowMove v g v.captured (v.openNumber ::ₘ g)
  | freed (n : Nat) (g' : Multiset Nat) (hg : g = n ::ₘ g') : WindowMove v g (v.lowered n) g'
  | freedLast (n : Nat) (g' : Multiset Nat) (m : GenEntry) (hg : g = n ::ₘ g') (hm : m ∈ (v.lowered n).gens)
      (hc : m.state = .closing) : WindowMove v g ((v.lowered n).closingDone m) g'
  | freedLastQuiet (n : Nat) (g' : Multiset Nat) (m : GenEntry) (hg : g = n ::ₘ g') (hm : m ∈ (v.lowered n).gens)
      (hc : m.state = .closing) (h : v.state = .armed) :
      WindowMove v g (((v.lowered n).closingDone m).closedBy .quiet).trimmed g'
  | powerOn : WindowMove v g Window.afterPor 0

end Sys2Proof.Machine
end

section
/-! The laws of windows (R9, R31, R47, R53, R95) as laws of one record and the generations of its slots, and that every move of a
window keeps them. -/

namespace Sys2Proof.Machine

open Sys2Proof

/-! ### Timers and rings -/

theorem Window.trimmed_state (v : Window) : v.trimmed.state = v.state := by rw [v.trimmed_rest]

theorem Window.trimmed_capacity (v : Window) : v.trimmed.capacity = v.capacity := by rw [v.trimmed_rest]; rfl

theorem Window.trimmed_depth (v : Window) : v.trimmed.depth = v.depth := by rw [v.trimmed_rest]

theorem Window.trimmed_lastGen (v : Window) : v.trimmed.lastGen = v.lastGen := by rw [v.trimmed_rest]

/-- The completion of a closing generation changes the list and the ring state alone. -/
theorem Window.closingDone_rest (m : GenEntry) (v : Window) :
    v.closingDone m = { v with gens := (v.closingDone m).gens, ring := (v.closingDone m).ring } := by
  unfold Window.closingDone
  simp only
  split
  · conv_lhs => rw [Window.trimmed_rest]
  · rfl

theorem Window.trimmed_occupancy_le (v : Window) : v.trimmed.ring.occupancy ≤ v.ring.occupancy := by
  refine Window.trim_induction (P := fun u => u.ring.occupancy ≤ v.ring.occupancy) ?_ _ v le_rfl
  intro u m rest hg _ hu
  rw [Window.released_cons hg]
  simp only [RingState.released_occupancy]
  omega

theorem Window.closingDone_occupancy_le (m : GenEntry) (v : Window) :
    (v.closingDone m).ring.occupancy ≤ v.ring.occupancy := by
  unfold Window.closingDone
  simp only
  split
  · exact Window.trimmed_occupancy_le _
  · exact le_rfl

theorem RingState.truncated_occupancy (r : RingState) (capacity high position c : Nat) (q : Seq) :
    (r.truncated capacity high position c q).occupancy = r.occupancy - c := by
  unfold RingState.truncated
  split
  · rename_i hc
    simp [hc]
  · rfl

theorem Window.released_occupancy_le (v : Window) : v.released.ring.occupancy ≤ v.ring.occupancy := by
  cases h : v.gens with
  | nil => simp only [Window.released, h, le_refl]
  | cons m rest =>
    rw [Window.released_cons h]
    simp only [RingState.released_occupancy]
    omega

/-- Every move keeps a timer within its arming (R95). -/
theorem WindowMove.timerWithArming {v v' : Window} {g g' : Multiset Nat} (m : WindowMove v g v' g')
    (h : TimerWithArming v) : TimerWithArming v' := by
  unfold TimerWithArming at *
  cases m with
  | define | delete | arm | rewind | faulted | powerOn => exact fun hr => nomatch hr
  | disarming | disarmed => exact fun hr => nomatch hr
  | configure | bind | setClass | context | drained | freed => exact h
  | ringFull => exact h
  | time t p ht => exact fun hr => (ht hr).elim id h
  | close k ha hc => exact fun _ => (Window.trimmed_state _).trans ha
  | release m rest ha hg hc =>
    intro _
    rw [Window.released_cons hg]
    exact ha
  | pause c c' hs => exact fun hr => absurd (h hr) (by simp [hs])
  | resume hs => exact fun hr => absurd (h hr) (by simp [hs])
  | rewound => exact fun _ => rfl
  | capture ha => exact fun _ => ha
  | freedLast n g' m =>
    rw [Window.closingDone_rest]
    exact h
  | freedLastQuiet n g' m hg hm hc ha =>
    intro _
    rw [Window.trimmed_state]
    show ((v.lowered n).closingDone m).state = .armed
    rw [Window.closingDone_rest]
    exact ha

/-- A record in an arming keeps the ring's law when its occupancy does not exceed its capacity. -/
theorem ringBounded_of_live {v : Window} (hs : v.hasHistory) (ho : v.ring.occupancy ≤ v.capacity) : RingBounded v :=
  ⟨fun hi => absurd hi ((hasHistory_iff v).mp hs), ho⟩

theorem hasHistory_of_armed {v : Window} (h : v.state = .armed) : v.hasHistory := by simp [Window.hasHistory, h]

theorem hasHistory_of_rewinding {v : Window} (h : v.state = .rewinding) : v.hasHistory := by simp [Window.hasHistory, h]

theorem hasHistory_of_paused {v : Window} (h : v.state = .paused) : v.hasHistory := by simp [Window.hasHistory, h]

theorem hasHistory_of_faulted {v : Window} (h : v.state = .faulted) : v.hasHistory := by simp [Window.hasHistory, h]

theorem hasHistory_of_disarming {v : Window} (h : v.state = .disarming) : v.hasHistory := by simp [Window.hasHistory, h]

/-- Every move keeps occupancy within capacity, and the ring state of a window without an arming (R47, R53). -/
theorem WindowMove.ringBounded {v v' : Window} {g g' : Multiset Nat} (m : WindowMove v g v' g') (h : RingBounded v) :
    RingBounded v' := by
  have hempty : ∀ u : Window, u.ring = RingState.empty → RingBounded u := fun u hu =>
    ⟨fun _ => hu, by rw [hu]; exact Nat.zero_le _⟩
  have hlower : ∀ u : Window, u.hasHistory → u.ring.occupancy ≤ v.ring.occupancy → u.capacity = v.capacity →
      RingBounded u := fun u hh ho hc => ringBounded_of_live hh (ho.trans (hc ▸ h.occupancy))
  have hsame : ∀ u : Window, u.hasHistory → u.ring = v.ring → u.capacity = v.capacity → RingBounded u :=
    fun u hh ho hc => hlower u hh (ho ▸ le_rfl) hc
  cases m with
  | define base size hs => exact hempty _ (h.idle hs)
  | delete hs => exact hempty _ (h.idle (.inr hs))
  | configure f p d reload q a hs => exact hempty _ (h.idle (.inr hs))
  | bind b hs => exact hempty _ (h.idle (.inr hs))
  | arm | disarmed | powerOn => exact hempty _ rfl
  | setClass | time | context => exact ⟨h.idle, h.occupancy⟩
  | freed => exact ⟨h.idle, h.occupancy⟩
  | close k ha =>
    exact hlower _ (hasHistory_of_armed ((Window.trimmed_state _).trans ha))
      (Window.trimmed_occupancy_le _) (Window.trimmed_capacity _)
  | release m rest ha hg =>
    have hle := v.released_occupancy_le
    rw [Window.released_cons hg] at hle ⊢
    exact hlower _ (hasHistory_of_armed ha) hle rfl
  | ringFull ha => exact ringBounded_of_live (hasHistory_of_armed ha) h.occupancy
  | rewind => exact hsame _ (hasHistory_of_rewinding rfl) rfl rfl
  | drained c f hs => exact hsame _ (hasHistory_of_rewinding hs) rfl rfl
  | pause => exact hsame _ (hasHistory_of_paused rfl) rfl rfl
  | resume => exact hsame _ (hasHistory_of_rewinding rfl) rfl rfl
  | disarming => exact hsame _ (hasHistory_of_disarming rfl) rfl rfl
  | faulted => exact hsame _ (hasHistory_of_faulted rfl) rfl rfl
  | rewound c f hs =>
    refine hlower _ (hasHistory_of_armed rfl) ((Window.trimmed_occupancy_le _).trans ?_)
      (Window.trimmed_capacity _)
    simp only [Window.cutBack, RingState.truncated_occupancy]
    omega
  | capture ha hr => exact ringBounded_of_live (hasHistory_of_armed ha) hr
  | freedLast n g' m =>
    have hle := Window.closingDone_occupancy_le m (v.lowered n)
    have hrest := Window.closingDone_rest m (v.lowered n)
    refine ⟨fun hi => ?_, ?_⟩
    · have hempty : v.ring = RingState.empty := h.idle (by rw [hrest] at hi; exact hi)
      have hnot : ¬(v.state = .armed ∨ v.state = .rewinding) := by
        rw [hrest] at hi
        rcases hi with hi | hi <;> (have hi : v.state = _ := hi; simp [hi])
      unfold Window.closingDone
      simp only
      rw [if_neg (by exact hnot)]
      exact hempty
    · refine hle.trans (h.occupancy.trans ?_)
      rw [hrest]
      exact le_rfl
  | freedLastQuiet n g' m hg hm hc ha =>
    have hrest := Window.closingDone_rest m (v.lowered n)
    refine hlower _ (hasHistory_of_armed ?_)
      ((Window.trimmed_occupancy_le _).trans (Window.closingDone_occupancy_le m (v.lowered n)))
      ((Window.trimmed_capacity _).trans ?_)
    · rw [Window.trimmed_state]
      show ((v.lowered n).closingDone m).state = .armed
      rw [hrest]
      exact ha
    · show ((v.lowered n).closingDone m).capacity = v.capacity
      rw [hrest]
      rfl

/-! ### The history of a window -/

/-- The law of one window's history (R9, R53, R71, R75, R82), with the generations of the slots that name it. -/
structure HistoryLaw (v : Window) (g : Multiset Nat) : Prop where
  list : GenerationListLaw v
  context : v.state = .rewinding ∨ v.state = .paused → v.rewind.isSome = true
  quietSlots : v.afterDrain → g = 0
  targetHeld : ∀ c, v.afterDrain → v.rewind = some c → ∃ e ∈ v.gens, e.number = c.target

theorem GenerationListLaw.shape {v : Window} (h : GenerationListLaw v) (hh : v.hasHistory) :
    ListShape v.gens v.lastGen v.ring.occupancy := ((generationListLaw_iff v).mp h).2.1 hh

theorem generationListLaw_of_live {v : Window} (hd : 1 ≤ v.depth) (hh : v.hasHistory)
    (hs : ListShape v.gens v.lastGen v.ring.occupancy)
    (hw : v.state = .armed ∨ v.state = .rewinding ∨ v.state = .paused → WithinDepth v.depth v.gens) :
    GenerationListLaw v :=
  (generationListLaw_iff v).mpr ⟨hd, fun _ => hs, fun hn => absurd hh hn, hw⟩

theorem not_hasHistory_of_idle {v : Window} (h : v.state = .unused ∨ v.state = .defined) : ¬v.hasHistory :=
  fun hh => (hasHistory_iff v).mp hh h

/-- A window without an arming has an empty list, and nothing more is asked of its history. -/
theorem historyLaw_of_idle {v : Window} {g : Multiset Nat} (hs : v.state = .unused ∨ v.state = .defined) (hd : 1 ≤ v.depth)
    (hg : v.gens = []) : HistoryLaw v g := by
  have hdrain : ¬v.afterDrain := by
    rintro (h | ⟨h, -⟩) <;> simp [h] at hs
  have hlive : ¬(v.state = .armed ∨ v.state = .rewinding ∨ v.state = .paused) := by
    rintro (h | h | h) <;> simp [h] at hs
  exact ⟨(generationListLaw_iff v).mpr ⟨hd, fun hh => absurd hh (not_hasHistory_of_idle hs), fun _ => hg,
      fun h => absurd h hlive⟩,
    fun h => absurd (Or.inr h) hlive, fun h => absurd h hdrain, fun _ h => absurd h hdrain⟩

/-- A window that is ARMED, FAULTED or DISARMING has no rewind to speak of. -/
theorem historyLaw_of_still {v : Window} {g : Multiset Nat}
    (hs : v.state = .armed ∨ v.state = .faulted ∨ v.state = .disarming) (hl : GenerationListLaw v) : HistoryLaw v g := by
  have hdrain : ¬v.afterDrain := by
    rintro (h | ⟨h, -⟩) <;> simp [h] at hs
  refine ⟨hl, fun h => ?_, fun h => absurd h hdrain, fun _ h => absurd h hdrain⟩
  rcases h with h | h <;> simp [h] at hs

/-- A list's law looks at state, depth, list, last number and occupancy alone. -/
theorem GenerationListLaw.congr {v v' : Window} (h : GenerationListLaw v) (hs : v'.state = v.state)
    (hd : v'.depth = v.depth) (hg : v'.gens = v.gens) (hl : v'.lastGen = v.lastGen)
    (ho : v'.ring.occupancy = v.ring.occupancy) : GenerationListLaw v' := by
  rw [generationListLaw_iff] at *
  simpa only [Window.hasHistory, hs, hd, hg, hl, ho] using h

/-- A move that leaves the state, the list and the target of the rewind alone keeps the history. -/
theorem HistoryLaw.congr {v v' : Window} {g : Multiset Nat} (h : HistoryLaw v g) (hs : v'.state = v.state)
    (hd : v'.depth = v.depth) (hg : v'.gens = v.gens) (hl : v'.lastGen = v.lastGen)
    (ho : v'.ring.occupancy = v.ring.occupancy)
    (hr : v'.rewind.map (fun c => (c.target, c.stop.isSome)) = v.rewind.map (fun c => (c.target, c.stop.isSome))) :
    HistoryLaw v' g := by
  have hdrain : v'.afterDrain ↔ v.afterDrain := by
    have hstop := congrArg (fun o : Option (Nat × Bool) => o.any (·.2)) hr
    simp only [Option.any_map] at hstop
    simp only [Window.afterDrain, hs, hstop]
  have hsome := congrArg Option.isSome hr
  simp only [Option.isSome_map] at hsome
  refine ⟨h.list.congr hs hd hg hl ho, fun hx => hsome ▸ h.context (hs ▸ hx), fun hx => h.quietSlots (hdrain.mp hx), ?_⟩
  intro c' hx hc'
  rw [hc', Option.map_some] at hr
  obtain ⟨c, hc, hcc⟩ := Option.map_eq_some_iff.mp hr.symm
  obtain ⟨e, he, hn⟩ := h.targetHeld c (hdrain.mp hx) hc
  exact ⟨e, hg ▸ he, hn.trans (congrArg Prod.fst hcc)⟩

/-! ### The list under a close, and under the freeing of a slot -/

theorem WithinDepth.map {depth : Nat} {gens : List GenEntry} {f : GenEntry → GenEntry} (hs : ∀ e, (f e).state = e.state)
    (h : WithinDepth depth gens) : WithinDepth depth (gens.map f) := by
  have hany : (gens.map f).head?.any (fun e => e.state == .closing) = gens.head?.any (fun e => e.state == .closing) := by
    cases gens <;> simp [hs]
  rcases h with h | h
  · exact .inl (by simpa using h)
  · exact .inr ⟨by simpa using h.1, hany.trans h.2⟩

theorem WithinDepth.length_le_succ {depth : Nat} {gens : List GenEntry} (h : WithinDepth depth gens) :
    gens.length ≤ depth + 1 := by
  rcases h with h | h <;> omega

/-- Without a CLOSING entry a list within its depth is no longer than its depth. -/
theorem WithinDepth.length_le {depth : Nat} {gens : List GenEntry} (h : WithinDepth depth gens)
    (hc : ∀ e ∈ gens, e.state ≠ .closing) : gens.length ≤ depth := by
  rcases h with h | ⟨-, h⟩
  · exact h
  · cases gens with
    | nil => simp at h
    | cons m rest => exact absurd (by simpa using h) (hc m (by simp))

theorem Window.hasClosing_eq_false_iff (v : Window) : v.hasClosing = false ↔ ∀ e ∈ v.gens, e.state ≠ .closing := by
  simp [Window.hasClosing]

/-- The close of an ARMED window's generation keeps its list's law. -/
theorem GenerationListLaw.close {v : Window} (h : GenerationListLaw v) (ha : v.state = .armed)
    (hc : ∀ e ∈ v.gens, e.state ≠ .closing) (k : CloseCause) : GenerationListLaw (v.closedBy k).trimmed := by
  have hh := hasHistory_of_armed ha
  have hshape : ListShape (v.closedBy k).gens (v.closedBy k).lastGen (v.closedBy k).ring.occupancy :=
    (h.shape hh).close hc k
  have hlen : (v.closedBy k).gens.length ≤ (v.closedBy k).depth + 1 := by
    have := WithinDepth.length_le (h.withinDepth (.inl ha)) hc
    simpa [Window.closedBy, mapOpen, Window.quietStopped] using this
  have hd : 1 ≤ (v.closedBy k).depth := h.depthPositive
  refine generationListLaw_of_live ((Window.trimmed_depth _).symm ▸ hd) ?_ ?_ fun _ => ?_
  · exact hasHistory_of_armed ((Window.trimmed_state _).trans ha)
  · rw [Window.trimmed_lastGen]
    exact Window.trimmed_shape hshape
  · rw [Window.trimmed_depth]
    exact Window.trimmed_within hshape hd hlen

/-- The freeing of a slot keeps the law of the list. -/
theorem GenerationListLaw.lowered {v : Window} (h : GenerationListLaw v) (n : Nat) : GenerationListLaw (v.lowered n) := by
  rw [generationListLaw_iff] at h ⊢
  obtain ⟨hd, hs, hi, hw⟩ := h
  refine ⟨hd, fun hh => (hs hh).lower n, fun hh => ?_, fun hx => WithinDepth.map (fun e => by split <;> rfl) (hw hx)⟩
  have hnil := hi hh
  simp [Window.lowered, hnil, mapNumber]

/-- The last slot of a CLOSING generation: the list keeps its law, and no entry is CLOSING then. -/
theorem GenerationListLaw.closingDone {v : Window} (h : GenerationListLaw v) (hp : v.state ≠ .paused) {m : GenEntry}
    (hm : m ∈ v.gens) (hc : m.state = .closing) :
    GenerationListLaw (v.closingDone m) ∧ ∀ e ∈ (v.closingDone m).gens, e.state ≠ .closing := by
  have hh : v.hasHistory := by
    by_contra hn
    have hnil := ((generationListLaw_iff v).mp h).2.2.1 hn
    rw [hnil] at hm
    exact nomatch hm
  have hshape := (h.shape hh).closed hm hc
  have hnone := (h.shape hh).no_closing hm hc
  unfold Window.closingDone
  simp only
  split
  · rename_i hs
    have hlen := WithinDepth.length_le_succ (h.withinDepth (hs.imp id .inl))
    refine ⟨generationListLaw_of_live ?_ ?_ ?_ fun _ => ?_, fun e he => hnone e (Window.trimmed_gens_suffix _ |>.subset he)⟩
    · rw [Window.trimmed_depth]
      exact h.depthPositive
    · rw [hasHistory_iff, Window.trimmed_state, ← hasHistory_iff]
      exact hh
    · rw [Window.trimmed_lastGen]
      exact Window.trimmed_shape hshape
    · rw [Window.trimmed_depth]
      exact Window.trimmed_within hshape h.depthPositive (by simpa [mapNumber] using hlen)
  · rename_i hs
    refine ⟨generationListLaw_of_live h.depthPositive hh hshape fun hx => ?_, hnone⟩
    rcases hx with hx | hx | hx
    · exact absurd (Or.inl hx) hs
    · exact absurd (Or.inr hx) hs
    · exact absurd hx hp

/-- Every move keeps the law of the generation list and what a rewind relies on (R9, R53, R71). -/
theorem WindowMove.historyLaw {v v' : Window} {g g' : Multiset Nat} (m : WindowMove v g v' g') (h : HistoryLaw v g) :
    HistoryLaw v' g' := by
  have hd := h.list.depthPositive
  cases m with
  | define => exact historyLaw_of_idle (.inr rfl) (Nat.le_succ 1) rfl
  | delete | powerOn => exact historyLaw_of_idle (.inl rfl) (Nat.le_succ 1) rfl
  | configure f p d reload q a hs hd' => exact historyLaw_of_idle (.inr hs) hd' (h.list.idle (.inr hs))
  | bind b hs => exact historyLaw_of_idle (.inr hs) hd (h.list.idle (.inr hs))
  | disarmed => exact historyLaw_of_idle (.inr rfl) hd rfl
  | setClass | time => exact h.congr rfl rfl rfl rfl rfl rfl
  | ringFull => exact h.congr rfl rfl rfl rfl rfl rfl
  | context c c' hc ht hs => exact h.congr rfl rfl rfl rfl rfl (by simp [hc, ht, hs])
  | arm =>
    exact historyLaw_of_still (.inl rfl) (generationListLaw_of_live hd (hasHistory_of_armed rfl)
      (listShape_fresh _) fun _ => .inl hd)
  | close k ha hc =>
    exact historyLaw_of_still (.inl ((Window.trimmed_state _).trans ha))
      (h.list.close ha (v.hasClosing_eq_false_iff.mp hc) k)
  | release m rest ha hg hc =>
    have hshape := h.list.shape (hasHistory_of_armed ha)
    have hw := h.list.withinDepth (.inl ha)
    rw [hg] at hshape hw
    rw [Window.released_cons hg]
    refine historyLaw_of_still (.inl ha) (generationListLaw_of_live hd (hasHistory_of_armed ha) ?_
      fun _ => .inl ?_)
    · simp only [RingState.released_occupancy]
      exact hshape.tail (hc.imp id And.right)
    · rcases hw with hw | ⟨-, hw⟩
      · simp only [List.length_cons] at hw
        exact (Nat.le_succ _).trans hw
      · have hclosing : m.state = .closing := by simpa using hw
        rcases hc with hc | hc
        · rw [hc] at hclosing
          exact nomatch hclosing
        · exact absurd hclosing hc.1
  | rewind n ha =>
    have hdrain : ∀ u : Window, u.state = .rewinding → u.rewind = some (RewindContext.accepted n) → ¬u.afterDrain := by
      rintro u hs hr (hx | ⟨-, hx⟩)
      · rw [hs] at hx
        exact nomatch hx
      · rw [hr] at hx
        exact nomatch hx
    refine ⟨generationListLaw_of_live hd (hasHistory_of_rewinding rfl)
        (h.list.shape (hasHistory_of_armed ha)) fun _ => h.list.withinDepth (.inl ha),
      fun _ => rfl, fun hx => absurd hx (hdrain _ rfl rfl), fun _ hx => absurd hx (hdrain _ rfl rfl)⟩
  | drained c f hs hc hg =>
    refine ⟨h.list.congr rfl rfl rfl rfl rfl, fun _ => rfl, fun _ => hg, ?_⟩
    rintro c' - hc'
    obtain rfl := Option.some.inj hc'
    show ∃ e ∈ v.gens, e.number = (c.checkTarget v.gens).target
    unfold RewindContext.checkTarget
    split
    · rename_i hany
      obtain ⟨e, he, hn⟩ := List.any_eq_true.mp hany
      exact ⟨e, he, by simpa using hn⟩
    · obtain ⟨older, e, hgens, -⟩ := (h.list.shape (hasHistory_of_rewinding hs)).newestOpen
      obtain ⟨a, rest, hcons⟩ := List.exists_cons_of_ne_nil (show v.gens ≠ [] by simp [hgens])
      exact ⟨a, by simp [hcons], by simp [hcons]⟩
  | pause c c' hs hc hstop ht =>
    have hdrain : v.afterDrain := .inr ⟨hs, by rw [hc]; exact hstop⟩
    refine ⟨generationListLaw_of_live hd (hasHistory_of_paused rfl)
        (h.list.shape (hasHistory_of_rewinding hs)) fun _ => h.list.withinDepth (.inr (.inl hs)),
      fun _ => rfl, fun _ => h.quietSlots hdrain, ?_⟩
    rintro c'' - hc''
    obtain rfl := Option.some.inj hc''
    rw [ht]
    exact h.targetHeld c hdrain hc
  | resume hs =>
    refine ⟨generationListLaw_of_live hd (hasHistory_of_rewinding rfl)
        (h.list.shape (hasHistory_of_paused hs)) fun _ => h.list.withinDepth (.inr (.inr hs)),
      fun _ => by simpa using h.context (.inr hs), fun _ => h.quietSlots (.inl hs), ?_⟩
    rintro c' - hc'
    obtain ⟨c, hc, rfl⟩ := Option.map_eq_some_iff.mp hc'
    exact h.targetHeld c (.inl hs) hc
  | rewound c f hs hc hstop =>
    have hdrain : v.afterDrain := .inr ⟨hs, by simp [hc, hstop]⟩
    have hlist := h.list.withinDepth (.inr (.inl hs))
    have hshape := (h.list.shape (hasHistory_of_rewinding hs)).complete c.target
      (h.targetHeld c hdrain hc)
    have hlen : (olderThan c.target v.gens ++ [GenEntry.fresh (v.lastGen + 1)]).length ≤ v.depth + 1 := by
      refine le_trans ?_ (WithinDepth.length_le_succ hlist)
      have hne : fromTarget c.target v.gens ≠ [] := by
        obtain ⟨e, he, hn⟩ := h.targetHeld c hdrain hc
        intro hnil
        have hall := List.dropWhile_eq_nil_iff.mp hnil e he
        simp [hn] at hall
      have hsplit := congrArg List.length (olderThan_append_fromTarget c.target v.gens)
      have hpos := List.length_pos_iff.mpr hne
      simp only [List.length_append, List.length_singleton] at hsplit ⊢
      omega
    have hocc : ListShape (v.cutBack c f).gens (v.cutBack c f).lastGen (v.cutBack c f).ring.occupancy := by
      simp only [Window.cutBack, RingState.truncated_occupancy]
      exact hshape
    refine historyLaw_of_still (.inl rfl) (generationListLaw_of_live ?_ (hasHistory_of_armed rfl) ?_
      fun _ => ?_)
    · exact (Window.trimmed_depth _).symm ▸ hd
    · show ListShape _ (v.cutBack c f).trimmed.lastGen _
      rw [Window.trimmed_lastGen]
      exact Window.trimmed_shape hocc
    · show WithinDepth (v.cutBack c f).trimmed.depth _
      rw [Window.trimmed_depth]
      exact Window.trimmed_within hocc hd hlen
  | disarming hh =>
    exact historyLaw_of_still (.inr (.inr rfl)) (generationListLaw_of_live hd (hasHistory_of_disarming rfl)
      (h.list.shape hh) fun hx => by simp at hx)
  | faulted r hs =>
    have hh : v.hasHistory := hs.elim hasHistory_of_armed hasHistory_of_rewinding
    exact historyLaw_of_still (.inr (.inl rfl)) (generationListLaw_of_live hd (hasHistory_of_faulted rfl)
      (h.list.shape hh) fun hx => by simp at hx)
  | capture ha hr =>
    have hh := hasHistory_of_armed ha
    exact historyLaw_of_still (.inl ha) (generationListLaw_of_live hd (hasHistory_of_armed ha)
      ((h.list.shape hh).capture _) fun _ =>
        WithinDepth.map (fun e => by split <;> rfl)
          (WithinDepth.map (fun e => by split <;> rfl) (h.list.withinDepth (.inl ha))))
  | freed n g' hg =>
    have hdrain : ¬v.afterDrain := fun hx => Multiset.cons_ne_zero (hg.symm.trans (h.quietSlots hx))
    exact ⟨h.list.lowered n, h.context, fun hx => absurd hx hdrain, fun _ hx => absurd hx hdrain⟩
  | freedLast n g' m hg hm hc =>
    have hdrain : ¬v.afterDrain := fun hx => Multiset.cons_ne_zero (hg.symm.trans (h.quietSlots hx))
    have hlist := (h.list.lowered n).closingDone (fun hp => hdrain (.inl hp)) hm hc
    have hrest := Window.closingDone_rest m (v.lowered n)
    have hdrain' : ¬((v.lowered n).closingDone m).afterDrain := by
      rw [hrest]
      exact hdrain
    refine ⟨hlist.1, ?_, fun hx => absurd hx hdrain', fun _ hx => absurd hx hdrain'⟩
    rw [hrest]
    exact h.context
  | freedLastQuiet n g' m hg hm hc ha =>
    have hdrain : ¬v.afterDrain := fun hx => Multiset.cons_ne_zero (hg.symm.trans (h.quietSlots hx))
    have hlist := (h.list.lowered n).closingDone (fun hp => hdrain (.inl hp)) hm hc
    have harmed : ((v.lowered n).closingDone m).state = .armed := by
      rw [Window.closingDone_rest]
      exact ha
    exact historyLaw_of_still (.inl ((Window.trimmed_state _).trans harmed)) (hlist.1.close harmed hlist.2 .quiet)

/-! ### The slots of a window -/

/-- The law of one window's slots (R31, R41), with the generations of the slots that name it. -/
structure CountLaw (v : Window) (g : Multiset Nat) : Prop where
  idle : ¬v.hasHistory → g = 0
  bounded : ∀ n ∈ g, n ≤ v.lastGen
  pending : ∀ e ∈ v.gens, e.slotsPending = g.count e.number

/-- The count stands when every entry is one of before, or a fresh one with a number that no slot has. -/
theorem CountLaw.mono {v v' : Window} {g : Multiset Nat} (h : CountLaw v g) (hh : ¬v'.hasHistory → g = 0)
    (hl : v.lastGen ≤ v'.lastGen)
    (hp : ∀ e ∈ v'.gens, (∃ a ∈ v.gens, a.number = e.number ∧ a.slotsPending = e.slotsPending) ∨
      (v.lastGen < e.number ∧ e.slotsPending = 0)) : CountLaw v' g where
  idle := hh
  bounded := fun n hn => (h.bounded n hn).trans hl
  pending := by
    intro e he
    rcases hp e he with ⟨a, ha, hn, hs⟩ | ⟨hn, hs⟩
    · rw [← hs, ← hn, h.pending a ha]
    · rw [hs, Multiset.count_eq_zero.mpr]
      exact fun hmem => absurd (h.bounded _ hmem) (Nat.not_le.mpr hn)

theorem CountLaw.of_gens {v v' : Window} {g : Multiset Nat} (h : CountLaw v g) (hh : ¬v'.hasHistory → g = 0)
    (hl : v'.lastGen = v.lastGen) (hg : v'.gens ⊆ v.gens) : CountLaw v' g :=
  h.mono hh hl.ge fun e he => .inl ⟨e, hg he, rfl, rfl⟩

theorem countLaw_of_zero {v : Window} (hp : ∀ e ∈ v.gens, e.slotsPending = 0) : CountLaw v 0 :=
  ⟨fun _ => rfl, fun _ hn => absurd hn (Multiset.notMem_zero _), fun e he => by simp [hp e he]⟩

/-- The close of R11 leaves every slot with its generation. -/
theorem CountLaw.close {v : Window} {g : Multiset Nat} (h : CountLaw v g) (ha : v.state = .armed) (k : CloseCause) :
    CountLaw (v.closedBy k).trimmed g := by
  refine h.mono (fun hn => absurd (hasHistory_of_armed (v := (v.closedBy k).trimmed) ((Window.trimmed_state _).trans ha)) hn)
    ((Window.trimmed_lastGen _).symm ▸ Nat.le_succ _) fun e he => ?_
  rcases List.mem_append.mp ((Window.trimmed_gens_suffix _).subset he) with he | he
  · obtain ⟨a, ha', rfl⟩ := List.mem_map.mp he
    exact .inl ⟨a, ha', by split <;> rfl, by split <;> rfl⟩
  · rw [List.mem_singleton.mp he]
    exact .inr ⟨Nat.lt_succ_self _, rfl⟩

/-- A freed slot is taken from its generation's count. -/
theorem CountLaw.lowered {v : Window} {n : Nat} {g : Multiset Nat} (h : CountLaw v (n ::ₘ g)) : CountLaw (v.lowered n) g where
  idle := fun hn => absurd (h.idle hn) (Multiset.cons_ne_zero)
  bounded := fun a ha => h.bounded a (Multiset.mem_cons_of_mem ha)
  pending := by
    intro e he
    obtain ⟨a, ha, rfl⟩ := List.mem_map.mp he
    have hcount := h.pending a ha
    split
    · rename_i hn
      rw [hn, Multiset.count_cons_self] at hcount
      simp [hn, hcount]
    · rename_i hn
      rw [Multiset.count_cons_of_ne hn] at hcount
      exact hcount

theorem CountLaw.closingDone {v : Window} {g : Multiset Nat} (h : CountLaw v g) (m : GenEntry) :
    CountLaw (v.closingDone m) g := by
  have hrest := v.closingDone_rest m
  refine h.mono (fun hn => h.idle (by rw [hrest] at hn; exact hn)) (by rw [hrest]) fun e he => ?_
  have hsub : (v.closingDone m).gens ⊆ mapNumber m.number (fun e => { e with state := .closed }) v.gens := by
    unfold Window.closingDone
    simp only
    split
    · exact (Window.trimmed_gens_suffix _).subset
    · exact List.Subset.refl _
  obtain ⟨a, ha, rfl⟩ := List.mem_map.mp (hsub he)
  exact .inl ⟨a, ha, by split <;> rfl, by split <;> rfl⟩

/-- A placed capture is counted in the OPEN generation, whose number no other entry has. -/
theorem CountLaw.captured {v : Window} {g : Multiset Nat} (h : CountLaw v g) (ha : v.state = .armed)
    (hs : ListShape v.gens v.lastGen v.ring.occupancy) : CountLaw v.captured (v.openNumber ::ₘ g) := by
  obtain ⟨older, e, hg, he, ho, hm⟩ := hs.mapOpen_eq (GenEntry.addRecord v.ring.nextSeq)
  have hopen : v.openNumber = e.number := by
    simp [Window.openNumber, openEntry_last hg he ho]
  have hgens : v.captured.gens = older ++ [GenEntry.addSlot (GenEntry.addRecord v.ring.nextSeq e)] := by
    simp only [Window.captured, hm]
    exact mapOpen_last _ (by simpa [GenEntry.addRecord] using he) ho
  refine ⟨fun hn => absurd (hasHistory_of_armed ha) hn, fun n hn => ?_, fun a ha' => ?_⟩
  · rcases Multiset.mem_cons.mp hn with hn | hn
    · rw [hn, hopen]
      exact hs.bounded e (by simp [hg])
    · exact h.bounded n hn
  · rw [hgens] at ha'
    rcases List.mem_append.mp ha' with ha' | ha'
    · have hne : a.number ≠ v.openNumber := by
        rw [hopen]
        intro heq
        have := hs.number_inj (a := a) (b := e) (by simp [hg, ha']) (by simp [hg]) heq
        exact ho a ha' (this ▸ he)
      rw [Multiset.count_cons_of_ne hne]
      exact h.pending a (by simp [hg, ha'])
    · rw [List.mem_singleton.mp ha']
      have hcount := h.pending e (by simp [hg])
      simp [GenEntry.addSlot, GenEntry.addRecord, hopen, hcount]

/-- Every move of a window with a lawful history keeps its slots counted (R31). -/
theorem WindowMove.countLaw {v v' : Window} {g g' : Multiset Nat} (m : WindowMove v g v' g') (hl : HistoryLaw v g)
    (h : CountLaw v g) : CountLaw v' g' := by
  have hzero : v.state = .unused ∨ v.state = .defined → g = 0 := fun hs => h.idle (not_hasHistory_of_idle hs)
  cases m with
  | define base size hs => exact hzero hs ▸ countLaw_of_zero fun _ he => nomatch he
  | delete hs => exact hzero (.inr hs) ▸ countLaw_of_zero fun _ he => nomatch he
  | powerOn => exact countLaw_of_zero fun _ he => nomatch he
  | disarmed hh hg => exact hg ▸ countLaw_of_zero fun _ he => nomatch he
  | arm hs =>
    rw [hzero (.inr hs)]
    refine countLaw_of_zero fun e he => ?_
    rw [List.mem_singleton.mp he]
    rfl
  | configure | bind | setClass | time | ringFull | context | drained => exact ⟨h.idle, h.bounded, h.pending⟩
  | close k ha => exact h.close ha k
  | release m rest ha hg =>
    rw [Window.released_cons hg]
    exact h.of_gens h.idle rfl (hg ▸ List.subset_cons_self m rest)
  | rewind => exact h.of_gens (fun hn => absurd (hasHistory_of_rewinding rfl) hn) rfl (List.Subset.refl _)
  | pause => exact h.of_gens (fun hn => absurd (hasHistory_of_paused rfl) hn) rfl (List.Subset.refl _)
  | resume => exact h.of_gens (fun hn => absurd (hasHistory_of_rewinding rfl) hn) rfl (List.Subset.refl _)
  | disarming => exact h.of_gens (fun hn => absurd (hasHistory_of_disarming rfl) hn) rfl (List.Subset.refl _)
  | faulted => exact h.of_gens (fun hn => absurd (hasHistory_of_faulted rfl) hn) rfl (List.Subset.refl _)
  | rewound c f hs hc hstop =>
    refine h.mono (fun hn => absurd (hasHistory_of_armed rfl) hn) ((Window.trimmed_lastGen _).symm ▸ Nat.le_succ _)
      fun e he => ?_
    rcases List.mem_append.mp ((Window.trimmed_gens_suffix _).subset he) with he | he
    · exact .inl ⟨e, (List.takeWhile_sublist _).subset he, rfl, rfl⟩
    · rw [List.mem_singleton.mp he]
      exact .inr ⟨Nat.lt_succ_self _, rfl⟩
  | capture ha => exact h.captured ha (hl.list.shape (hasHistory_of_armed ha))
  | freed n g' hg =>
    subst hg
    exact h.lowered
  | freedLast n g' m hg =>
    subst hg
    exact h.lowered.closingDone m
  | freedLastQuiet n g' m hg hm hc ha =>
    subst hg
    refine (h.lowered.closingDone m).close ?_ .quiet
    rw [Window.closingDone_rest]
    exact ha

end Sys2Proof.Machine
end

section
/-! What one step can change, said once: every step of the part is a run of the changes below, and a law of the part holds along
a run when each change keeps it. -/

namespace Sys2Proof.Machine

open Sys2Proof

/-! ### Busy slots and occupied entries -/

theorem filterMap_id_free {α : Type} {l : List (Option α)} {i : Nat} {a : α} (h : l[i]? = some (some a)) :
    (l.filterMap id).Perm (a :: (l.set i none).filterMap id) := by
  induction l generalizing i with
  | nil => simp at h
  | cons o l ih =>
    cases i with
    | zero =>
      simp only [List.getElem?_cons_zero, Option.some.injEq] at h
      simp [h]
    | succ i =>
      rw [List.getElem?_cons_succ] at h
      cases o with
      | none => simpa using ih h
      | some b => simpa using ((ih h).cons b).trans (List.Perm.swap a b _)

theorem filterMap_id_fill {α : Type} {l : List (Option α)} {i : Nat} (a : α) (h : l[i]? = some none) :
    ((l.set i (some a)).filterMap id).Perm (a :: l.filterMap id) := by
  obtain ⟨hi, hget⟩ := List.getElem?_eq_some_iff.mp h
  have hset : (l.set i (some a))[i]? = some (some a) := by simp [hi]
  have hback : (l.set i (some a)).set i none = l := by
    rw [List.set_set, ← hget, List.set_getElem_self]
  simpa only [hback] using filterMap_id_free hset

theorem filterMap_id_map {α β : Type} (f : α → β) (l : List (Option α)) :
    (l.map (Option.map f)).filterMap id = (l.filterMap id).map f := by
  induction l with
  | nil => rfl
  | cons o l ih => cases o <;> simp_all

@[simp] theorem setSlot_setSlot (s : State) (k : SlotIdx) (a b : Option Slot) :
    (s.setSlot k a).setSlot k b = s.setSlot k b := by
  simp [State.setSlot, Vector.set_set]

@[simp] theorem setEntry_setEntry (s : State) (t : Ticket) (a b : Option OutEntry) :
    (s.setEntry t a).setEntry t b = s.setEntry t b := by
  simp [State.setEntry, Vector.set_set]

theorem slots_getElem? (s : State) (k : SlotIdx) : s.slots.toList[k.val]? = some (s.slot k) := by
  simp [State.slot]

theorem table_getElem? (s : State) (t : Ticket) : s.table.toList[t.val]? = some (s.entry t) := by
  simp [State.entry]

theorem busySlots_setSlot (s : State) (k : SlotIdx) (o : Option Slot) :
    (s.setSlot k o).busySlots = (s.slots.toList.set k.val o).filterMap id := by
  simp [State.busySlots, State.setSlot, Vector.toList_set]

theorem occupied_setEntry (s : State) (t : Ticket) (o : Option OutEntry) :
    (s.setEntry t o).occupied = (s.table.toList.set t.val o).filterMap id := by
  simp [State.occupied, State.setEntry, Vector.toList_set]

/-- The busy slots are the one at `k` and the others. -/
theorem busySlots_free {s : State} {k : SlotIdx} {sl : Slot} (h : s.slot k = some sl) :
    s.busySlots.Perm (sl :: (s.setSlot k none).busySlots) := by
  rw [busySlots_setSlot]
  exact filterMap_id_free ((slots_getElem? s k).trans (congrArg some h))

theorem busySlots_fill {s : State} {k : SlotIdx} (sl : Slot) (h : s.slot k = none) :
    (s.setSlot k (some sl)).busySlots.Perm (sl :: s.busySlots) := by
  rw [busySlots_setSlot]
  exact filterMap_id_fill sl ((slots_getElem? s k).trans (congrArg some h))

theorem busySlots_replace {s : State} {k : SlotIdx} (sl : Slot) :
    (s.setSlot k (some sl)).busySlots.Perm (sl :: (s.setSlot k none).busySlots) := by
  simpa using busySlots_free (s := s.setSlot k (some sl)) (k := k) (sl := sl) (slot_setSlot_self _ _ _)

theorem occupied_free {s : State} {t : Ticket} {e : OutEntry} (h : s.entry t = some e) :
    s.occupied.Perm (e :: (s.setEntry t none).occupied) := by
  rw [occupied_setEntry]
  exact filterMap_id_free ((table_getElem? s t).trans (congrArg some h))

theorem occupied_fill {s : State} {t : Ticket} (e : OutEntry) (h : s.entry t = none) :
    (s.setEntry t (some e)).occupied.Perm (e :: s.occupied) := by
  rw [occupied_setEntry]
  exact filterMap_id_fill e ((table_getElem? s t).trans (congrArg some h))

theorem occupied_replace {s : State} {t : Ticket} (e : OutEntry) :
    (s.setEntry t (some e)).occupied.Perm (e :: (s.setEntry t none).occupied) := by
  simpa using occupied_free (s := s.setEntry t (some e)) (t := t) (e := e) (entry_setEntry_self _ _ _)

/-- An entry is one of the occupied ones exactly when some ticket names it. -/
theorem mem_occupied_iff (s : State) (e : OutEntry) : e ∈ s.occupied ↔ ∃ t, s.entry t = some e := by
  simp only [State.occupied, List.mem_filterMap, id, exists_eq_right, Vector.mem_toList_iff, Vector.mem_iff_getElem, State.entry]
  exact ⟨fun ⟨i, hi, h⟩ => ⟨⟨i, hi⟩, h⟩, fun ⟨t, h⟩ => ⟨t.val, t.isLt, h⟩⟩

theorem mem_busySlots_iff (s : State) (sl : Slot) : sl ∈ s.busySlots ↔ ∃ k, s.slot k = some sl := by
  simp only [State.busySlots, List.mem_filterMap, id, exists_eq_right, Vector.mem_toList_iff, Vector.mem_iff_getElem, State.slot]
  exact ⟨fun ⟨i, hi, h⟩ => ⟨⟨i, hi⟩, h⟩, fun ⟨t, h⟩ => ⟨t.val, t.isLt, h⟩⟩

/-! ### The generations of a window's slots -/

/-- The generations of the busy slots that name a window, in no order. -/
def State.slotGens (s : State) (w : WindowIdx) : Multiset Nat := ((s.slotsOf w).map (·.generation) : List Nat)

/-- What a list of slots counts for a window. -/
def gensIn (w : WindowIdx) (l : List Slot) : Multiset Nat := ((l.filter (fun k => k.window == w)).map (·.generation) : List Nat)

theorem slotGens_eq (s : State) (w : WindowIdx) : s.slotGens w = gensIn w s.busySlots := rfl

theorem gensIn_perm {l l' : List Slot} (h : l.Perm l') (w : WindowIdx) : gensIn w l = gensIn w l' :=
  Multiset.coe_eq_coe.mpr ((h.filter _).map _)

theorem gensIn_cons (w : WindowIdx) (sl : Slot) (l : List Slot) :
    gensIn w (sl :: l) = if sl.window = w then sl.generation ::ₘ gensIn w l else gensIn w l := by
  by_cases h : sl.window = w <;> simp [gensIn, h]

theorem slotGens_free {s : State} {k : SlotIdx} {sl : Slot} (h : s.slot k = some sl) (w : WindowIdx) :
    s.slotGens w = if sl.window = w then sl.generation ::ₘ (s.setSlot k none).slotGens w else (s.setSlot k none).slotGens w := by
  rw [slotGens_eq, gensIn_perm (busySlots_free h), gensIn_cons]
  rfl

theorem slotGens_fill {s : State} {k : SlotIdx} (sl : Slot) (h : s.slot k = none) (w : WindowIdx) :
    (s.setSlot k (some sl)).slotGens w = if sl.window = w then sl.generation ::ₘ s.slotGens w else s.slotGens w := by
  rw [slotGens_eq, gensIn_perm (busySlots_fill sl h), gensIn_cons]
  rfl

/-- A slot that keeps its window and its generation counts as before. -/
theorem slotGens_setSlot {s : State} {k : SlotIdx} {sl sl' : Slot} (h : s.slot k = some sl) (hw : sl'.window = sl.window)
    (hg : sl'.generation = sl.generation) (w : WindowIdx) : (s.setSlot k (some sl')).slotGens w = s.slotGens w := by
  rw [slotGens_free h, slotGens_eq, gensIn_perm (busySlots_replace sl'), gensIn_cons, hw, hg]
  rfl

theorem slotGens_eq_zero_iff (s : State) (w : WindowIdx) : s.slotGens w = 0 ↔ s.slotsOf w = [] := by
  simp [State.slotGens]

theorem historyOk_iff (s : State) : HistoryOk s ↔ ∀ w, HistoryLaw (s.window w) (s.slotGens w) := by
  constructor
  · intro h w
    exact ⟨h.lists w, h.context w, fun hx => (slotGens_eq_zero_iff s w).mpr (h.quietSlots w hx), h.targetHeld w⟩
  · intro h
    exact ⟨fun w => (h w).list, fun w => (h w).context, fun w hx => (slotGens_eq_zero_iff s w).mp ((h w).quietSlots hx),
      fun w => (h w).targetHeld⟩

theorem count_slotGens (s : State) (w : WindowIdx) (n : Nat) :
    (s.slotGens w).count n = ((s.slotsOf w).filter (fun k => k.generation == n)).length := by
  rw [State.slotGens, Multiset.coe_count, List.count, List.countP_map, List.countP_eq_length_filter]
  rfl

theorem slotsCounted_iff (s : State) : SlotsCounted s ↔ ∀ w, CountLaw (s.window w) (s.slotGens w) := by
  constructor
  · intro h w
    refine ⟨fun hn => (slotGens_eq_zero_iff s w).mpr (h.idle w hn), fun n hn => ?_, fun e he => ?_⟩
    · obtain ⟨k, hk, rfl⟩ := List.mem_map.mp (Multiset.mem_coe.mp hn)
      exact h.bounded w k hk
    · rw [count_slotGens]
      exact h.pending w e he
  · intro h
    refine ⟨fun w hn => (slotGens_eq_zero_iff s w).mp ((h w).idle hn), fun w k hk => ?_, fun w e he => ?_⟩
    · exact (h w).bounded _ (Multiset.mem_coe.mpr (List.mem_map_of_mem hk))
    · rw [← count_slotGens]
      exact (h w).pending e he

/-! ### The changes -/

/-- One change that the decision of a request can make (R115): a move of a window, an event, a trigger, an answer, a request
forwarded, a capture placed. -/
inductive Decision (s : State) : State → Prop where
  | window (w : WindowIdx) (v : Window) (h : WindowMove (s.window w) (s.slotGens w) v (s.slotGens w)) :
      Decision s (s.setWindow w v)
  | event (b : EventBody) : Decision s (emit b s)
  | trigger : Decision s (raiseTrigger s)
  | answer (q : Requester) (g : Tag) (st : SysStatus) (d : Option LineData) : Decision s (answer q g st d s)
  | forward (r : SysRequest) (h : lineHeld s r.line = false) : Decision s (forward r s)
  | capture (k : SlotIdx) (w : WindowIdx) (r : SysRequest) (hk : s.slot k = none) (hl : lineHeld s r.line = false)
      (ha : (s.window w).state = .armed) (hr : (s.window w).ring.occupancy < (s.window w).capacity) :
      Decision s { (s.setWindow w (s.window w).captured).setSlot k (some (slotFor w (s.window w) r)) with
        captureQ := s.captureQ ++ [{ owner := .capture k .captureRead, line := r.line, op := .read }] }

/-- Room for one more request or response: an arrival waits, for which room is kept, or fewer than 64 are held (R105, R118). -/
def hasRoom (s : State) : Prop := s.waiting.isSome = true ∨ s.admitted.length + s.responses.length < 64

/-- One change that a step can make. -/
inductive Change (s : State) : State → Prop where
  | decision (t : State) (h : Decision s t) : Change s t
  | slot (k : SlotIdx) (sl sl' : Slot) (h : s.slot k = some sl) (hw : sl'.window = sl.window)
      (hg : sl'.generation = sl.generation) (hl : sl'.line = sl.line) : Change s (s.setSlot k (some sl'))
  | freed (k : SlotIdx) (sl : Slot) (v : Window) (h : s.slot k = some sl)
      (m : WindowMove (s.window sl.window) (s.slotGens sl.window) v ((s.setSlot k none).slotGens sl.window)) :
      Change s ((s.setSlot k none).setWindow sl.window v)
  | learned (w : WindowIdx) (g : Nat) (l : Line) : Change s (filterInsert w g l s)
  | forgotten (w : WindowIdx) : Change s (filterRemove w s)
  | captureQueued (q : List MemRequest) (h : ∀ r ∈ q, r.isForwarded = false) : Change s { s with captureQ := s.captureQ ++ q }
  | triggerQueued (r : MemRequest) (h : r.isForwarded = false) : Change s { s with forwardQ := s.forwardQ ++ [r] }
  | offered (r : MemRequest) (w : WindowIdx) (h : r.isForwarded = false) :
      Change s { s with rewindOffer := some r, rewindLast := w }
  | entryFreed (t : Ticket) : Change s (s.setEntry t none)
  | entry (t : Ticket) (e e' : OutEntry) (h : s.entry t = some e) (hr : e'.request = e.request)
      (hp : e'.state ≠ .presented) : Change s (s.setEntry t (some e'))
  | granted (t : Ticket) (src : Source) (r : MemRequest) (ht : s.entry t = none) (hp : somePresented s = false)
      (hr : sourceRequest s src = some r) :
      Change s { (takeFromSource s src).setEntry t (some (OutEntry.granted r)) with lastSource := src }
  | elapsed : Change s (elapse s)
  | portReset : Change s (discardForReset s)
  | powerOn : Change s (assertPor s)
  | settings (srst por waitCsRise : Bool) (timeout : BitVec 16) (attnEnable : Bool) (pending : List Instr) (freeCount : Nat)
      (reexamDue : Bool) : Change s { s with
        srst := srst, por := por, waitCsRise := waitCsRise, timeout := timeout, attnEnable := attnEnable, pending := pending
        freeCount := freeCount, reexamDue := reexamDue }
  | eventRead : Change s { s with events := s.events.tail, lost := false }
  | replied (held : List Byte) (n : Byte) (h : held.length = 64 ∧ held.getD 63 0 = crc8 (held.take 63)) :
      Change s { s with held := held, cmdNumber := n }
  | delivered : Change s { s with responses := s.responses.tail }
  | admitted (r : SysRequest) (hn : (r.requester, r.tag) ∉ s.admitted) (h : hasRoom s) :
      Change s (takeIn r { s with waiting := none })
  | responded (r : SysResponse) (h : hasRoom s) : Change s (respond r { s with waiting := none })
  | waits (r : SysRequest) (h : hasRoom s) : Change s { s with waiting := some r }
  | parked (e : ParkEntry) (h : s.park.length < 32) : Change s { s with park := s.park ++ [e] }
  | unplaced (w : WindowIdx) : Change s (unplaceParked w s)
  | passBegins : Change s { s with pass := some 0, reexamDue := false }
  | passEnds : Change s { s with pass := none }
  | entryLeaves (n : Nat) (h : s.pass = some n) (hn : n < s.park.length) : Change s { s with park := s.park.eraseIdx n }
  | entryStays (n : Nat) (e : ParkEntry) (hn : n < s.park.length) :
      Change s { s with park := s.park.set n e, pass := some (n + 1) }

/-- A run of the changes that a decision makes. -/
abbrev Decisions : State → State → Prop := Relation.ReflTransGen Decision

/-- A run of changes. -/
abbrev Changes : State → State → Prop := Relation.ReflTransGen Change

theorem Decisions.changes {s t : State} (h : Decisions s t) : Changes s t :=
  Relation.ReflTransGen.mono (fun _ _ hd => Change.decision _ hd) _ _ h

/-- A law that every change keeps holds along a run. -/
theorem Changes.keeps {P : State → Prop} (hP : ∀ s t, Change s t → P s → P t) {s t : State} (h : Changes s t) (hs : P s) :
    P t := by
  induction h with
  | refl => exact hs
  | tail _ hc ih => exact hP _ _ hc ih

/-! ### The windows along a run -/

/-- What an insertion into the filter leaves alone. -/
theorem filterInsert_rest (w : WindowIdx) (g : Nat) (l : Line) (s : State) :
    filterInsert w g l s = { s with filter := (filterInsert w g l s).filter } := by
  unfold filterInsert
  split <;> rfl

/-- A window and its slots under one change: as they were, or one move on. -/
def MovesAtMost (s t : State) (w : WindowIdx) : Prop :=
  (t.window w = s.window w ∧ t.slotGens w = s.slotGens w) ∨
    WindowMove (s.window w) (s.slotGens w) (t.window w) (t.slotGens w)

theorem movesAtMost_setWindow {s : State} {w : WindowIdx} {v : Window}
    (h : WindowMove (s.window w) (s.slotGens w) v (s.slotGens w)) (u : WindowIdx) : MovesAtMost s (s.setWindow w v) u := by
  by_cases e : u = w
  · subst e
    refine .inr ?_
    rw [window_setWindow_self]
    exact h
  · exact .inl ⟨window_setWindow_ne s v e, rfl⟩

theorem movesAtMost_capture {s : State} {k : SlotIdx} {w : WindowIdx} (r : SysRequest) (hk : s.slot k = none)
    (ha : (s.window w).state = .armed) (hr : (s.window w).ring.occupancy < (s.window w).capacity) (u : WindowIdx) :
    MovesAtMost s ((s.setWindow w (s.window w).captured).setSlot k (some (slotFor w (s.window w) r))) u := by
  have hgens : ((s.setWindow w (s.window w).captured).setSlot k (some (slotFor w (s.window w) r))).slotGens u =
      if w = u then (s.window w).openNumber ::ₘ s.slotGens u else s.slotGens u := slotGens_fill (s := s.setWindow w _) _ hk u
  have hwin : ((s.setWindow w (s.window w).captured).setSlot k (some (slotFor w (s.window w) r))).window u =
      (s.setWindow w (s.window w).captured).window u := rfl
  unfold MovesAtMost
  rw [hgens, hwin]
  by_cases e : u = w
  · subst e
    refine .inr ?_
    rw [window_setWindow_self, if_pos rfl]
    exact .capture ha hr
  · rw [window_setWindow_ne s _ e, if_neg (Ne.symm e)]
    exact .inl ⟨rfl, rfl⟩

theorem movesAtMost_freed {s : State} {k : SlotIdx} {sl : Slot} {v : Window} (h : s.slot k = some sl)
    (m : WindowMove (s.window sl.window) (s.slotGens sl.window) v ((s.setSlot k none).slotGens sl.window)) (u : WindowIdx) :
    MovesAtMost s ((s.setSlot k none).setWindow sl.window v) u := by
  by_cases e : u = sl.window
  · subst e
    refine .inr ?_
    rw [window_setWindow_self]
    exact m
  · refine .inl ⟨window_setWindow_ne (s.setSlot k none) v e, ?_⟩
    rw [slotGens_free h, if_neg (Ne.symm e)]
    rfl

/-- Slots whose triggers are dropped keep their windows and generations. -/
theorem slotGens_dropTriggers (s : State) (w : WindowIdx) :
    ({ s with slots := dropTriggers s.slots } : State).slotGens w = s.slotGens w := by
  have hdrop : ∀ sl : Slot, (if sl.beforeForwarding then sl.drop else sl).window = sl.window ∧
      (if sl.beforeForwarding then sl.drop else sl).generation = sl.generation := fun sl => by split <;> exact ⟨rfl, rfl⟩
  have hbusy : ({ s with slots := dropTriggers s.slots } : State).busySlots =
      s.busySlots.map (fun sl => if sl.beforeForwarding then sl.drop else sl) := by
    simp only [State.busySlots, dropTriggers, Vector.toList_map]
    exact filterMap_id_map _ _
  simp only [State.slotGens, State.slotsOf, hbusy, List.filter_map, List.map_map, Function.comp_def, hdrop]

theorem Decision.movesAtMost {s t : State} (h : Decision s t) (w : WindowIdx) : MovesAtMost s t w := by
  cases h with
  | window u v m => exact movesAtMost_setWindow m w
  | event | trigger | answer | forward => exact .inl ⟨rfl, rfl⟩
  | capture k u r hk hl ha hr => exact movesAtMost_capture r hk ha hr w

theorem elapse_window (s : State) (w : WindowIdx) :
    (elapse s).window w =
      { s.window w with timer := (s.window w).timer.microsecond (s.window w).quietTick.micros } := by
  simp [elapse, State.window]

theorem QuietTimer.microsecond_running (t : QuietTimer) (tick : Nat) : (t.microsecond tick).running = t.running := by
  unfold QuietTimer.microsecond
  split
  · split <;> rfl
  · rfl

/-- Under one change a window and its slots stay as they were, or make one move. -/
theorem Change.movesAtMost {s t : State} (h : Change s t) (w : WindowIdx) : MovesAtMost s t w := by
  cases h with
  | decision _ h => exact h.movesAtMost w
  | slot k sl sl' h hw hg => exact .inl ⟨rfl, slotGens_setSlot h hw hg w⟩
  | freed k sl v h m => exact movesAtMost_freed h m w
  | learned u g l =>
    rw [filterInsert_rest]
    exact .inl ⟨rfl, rfl⟩
  | granted t src => cases src <;> exact .inl ⟨rfl, rfl⟩
  | elapsed =>
    refine .inr ?_
    rw [elapse_window]
    exact .time _ _ fun hr => .inr (by rwa [QuietTimer.microsecond_running] at hr)
  | portReset => exact .inl ⟨rfl, slotGens_dropTriggers s w⟩
  | powerOn =>
    have hwin : (assertPor s).window w = Window.afterPor := by simp [assertPor, State.reset, State.window]
    have hgens : (assertPor s).slotGens w = 0 := (slotGens_eq_zero_iff _ w).mpr (by simp [assertPor, State.reset, State.slotsOf, State.busySlots])
    refine .inr ?_
    rw [hwin, hgens]
    exact .powerOn
  | forgotten | captureQueued | triggerQueued | offered | entryFreed | entry | settings | eventRead | replied | delivered
  | admitted | responded | waits | parked | unplaced | passBegins | passEnds | entryLeaves | entryStays =>
    exact .inl ⟨rfl, rfl⟩

/-- A law of windows and their slots that every move keeps is kept by every change. -/
theorem Change.keeps_windows {P : Window → Multiset Nat → Prop}
    (hP : ∀ v g v' g', WindowMove v g v' g' → P v g → P v' g') {s t : State} (h : Change s t)
    (hs : ∀ w, P (s.window w) (s.slotGens w)) (w : WindowIdx) : P (t.window w) (t.slotGens w) := by
  rcases h.movesAtMost w with ⟨hw, hg⟩ | m
  · rw [hw, hg]
    exact hs w
  · exact hP _ _ _ _ m (hs w)

theorem Changes.historyOk {s t : State} (h : Changes s t) (hs : HistoryOk s) : HistoryOk t := by
  rw [historyOk_iff] at *
  exact h.keeps (P := fun s => ∀ w, HistoryLaw (s.window w) (s.slotGens w))
    (fun _ _ hc hs => hc.keeps_windows (fun _ _ _ _ m hv => m.historyLaw hv) hs) hs

theorem Changes.slotsCounted {s t : State} (h : Changes s t) (hh : HistoryOk s) (hs : SlotsCounted s) : SlotsCounted t := by
  rw [historyOk_iff] at hh
  rw [slotsCounted_iff] at *
  exact fun w => (h.keeps (P := fun s => ∀ w, HistoryLaw (s.window w) (s.slotGens w) ∧ CountLaw (s.window w) (s.slotGens w))
    (fun _ _ hc hs => hc.keeps_windows
      (P := fun v g => HistoryLaw v g ∧ CountLaw v g) (fun _ _ _ _ m hv => ⟨m.historyLaw hv.1, m.countLaw hv.1 hv.2⟩) hs)
    (fun w => ⟨hh w, hs w⟩) w).2

theorem Changes.ringBounded {s t : State} (h : Changes s t) (hs : EveryWindow RingBounded s) : EveryWindow RingBounded t :=
  h.keeps (fun _ _ hc hs => hc.keeps_windows (P := fun v _ => RingBounded v) (fun _ _ _ _ m hv => m.ringBounded hv) hs) hs

theorem Changes.timerWithArming {s t : State} (h : Changes s t) (hs : EveryWindow TimerWithArming s) :
    EveryWindow TimerWithArming t :=
  h.keeps (fun _ _ hc hs => hc.keeps_windows (P := fun v _ => TimerWithArming v) (fun _ _ _ _ m hv => m.timerWithArming hv) hs) hs

end Sys2Proof.Machine
end

section
/-! The laws of the queues, the table, the filter and the admission unit (R23, R27, R105, R113, R118, R133, R146, R173) along a run of
changes. -/

namespace Sys2Proof.Machine

open Sys2Proof

/-! ### The event queue and the held response (R146, R148, R173) -/

theorem Decision.eventsBounded {s t : State} (h : Decision s t) (hs : EventsBounded s) : EventsBounded t := by
  cases h with
  | event b => exact emit_bounded b s hs
  | window | trigger | answer | forward | capture => exact hs

theorem Change.eventsBounded {s t : State} (h : Change s t) (hs : EventsBounded s) : EventsBounded t := by
  cases h with
  | decision _ h => exact h.eventsBounded hs
  | learned w g l =>
    rw [filterInsert_rest]
    exact hs
  | granted t src => cases src <;> exact hs
  | powerOn => exact Nat.zero_le _
  | eventRead =>
    have htail : s.events.tail.length ≤ s.events.length := by simp
    exact htail.trans hs
  | slot | freed | forgotten | captureQueued | triggerQueued | offered | entryFreed | entry | elapsed | portReset | settings
  | replied | delivered | admitted | responded | waits | parked | unplaced | passBegins | passEnds | entryLeaves | entryStays =>
    exact hs

theorem reset_heldIsFrame : HeldIsFrame State.reset := ⟨by decide +kernel, by decide +kernel⟩

theorem Decision.heldIsFrame {s t : State} (h : Decision s t) (hs : HeldIsFrame s) : HeldIsFrame t := by
  cases h <;> exact hs

theorem Change.heldIsFrame {s t : State} (h : Change s t) (hs : HeldIsFrame s) : HeldIsFrame t := by
  cases h with
  | decision _ h => exact h.heldIsFrame hs
  | learned w g l =>
    rw [filterInsert_rest]
    exact hs
  | granted t src => cases src <;> exact hs
  | powerOn => exact reset_heldIsFrame
  | replied held n h => exact h
  | slot | freed | forgotten | captureQueued | triggerQueued | offered | entryFreed | entry | elapsed | portReset | settings
  | eventRead | delivered | admitted | responded | waits | parked | unplaced | passBegins | passEnds | entryLeaves
  | entryStays => exact hs

/-! ### The presented request (R133, R134) -/

/-- The entry of a ticket is PRESENTED. -/
def presentedAt (s : State) (t : Ticket) : Bool := (s.entry t).any (fun e => e.state == .presented)

/-- A change that presents no other entry keeps the law of R133. -/
theorem OnePresented.of_presentedAt {s t : State} (h : OnePresented s)
    (hp : ∀ k, presentedAt t k = true → presentedAt s k = true) : OnePresented t :=
  fun j k hj hk => h j k (hp j hj) (hp k hk)

theorem entry_setEntry (s : State) (t u : Ticket) (o : Option OutEntry) :
    (s.setEntry t o).entry u = if u = t then o else s.entry u := by
  by_cases h : u = t
  · subst h
    simp
  · simp [h, entry_setEntry_ne s o h]

theorem not_presentedAt_of_none {s : State} (h : somePresented s = false) (t : Ticket) : presentedAt s t = false := by
  cases he : s.entry t with
  | none => simp [presentedAt, he]
  | some e =>
    have hall := List.any_eq_false.mp h e ((mem_occupied_iff s e).mpr ⟨t, he⟩)
    simpa [presentedAt, he] using hall

theorem Decision.table {s t : State} (h : Decision s t) : t.table = s.table := by
  cases h <;> rfl

theorem elapse_entry (s : State) (t : Ticket) : (elapse s).entry t = (s.entry t).map OutEntry.microsecond := by
  simp [elapse, State.entry]

theorem OutEntry.microsecond_rest (e : OutEntry) :
    e.microsecond.state = e.state ∧ e.microsecond.request = e.request := by
  unfold OutEntry.microsecond
  split <;> exact ⟨rfl, rfl⟩

theorem discardForReset_entry (s : State) (t : Ticket) :
    (discardForReset s).entry t = (s.entry t).map (fun e =>
      if e.request.owner.source = .forward then { e with orphaned := true } else e) := by
  simp [discardForReset, orphanForward, State.entry]

theorem Change.onePresented {s t : State} (h : Change s t) (hs : OnePresented s) : OnePresented t := by
  cases h with
  | decision _ h => exact hs.of_presentedAt fun k hk => by simpa only [presentedAt, State.entry, h.table] using hk
  | learned w g l =>
    rw [filterInsert_rest]
    exact hs
  | entryFreed t =>
    refine hs.of_presentedAt fun k hk => ?_
    rw [presentedAt, entry_setEntry] at hk
    split at hk
    · exact nomatch hk
    · exact hk
  | entry t e e' he hr hp =>
    refine hs.of_presentedAt fun k hk => ?_
    rw [presentedAt, entry_setEntry] at hk
    split at hk
    · exact absurd (by simpa using hk) hp
    · exact hk
  | granted t src r ht hp =>
    have hentry : ∀ k, (({ (takeFromSource s src).setEntry t (some (OutEntry.granted r)) with lastSource := src } : State)).entry k =
        if k = t then some (OutEntry.granted r) else s.entry k := fun k => by
      cases src <;> exact entry_setEntry _ t k _
    have honly : ∀ k, presentedAt { (takeFromSource s src).setEntry t (some (OutEntry.granted r)) with lastSource := src } k =
        true → k = t := fun k hk => by
      by_contra hne
      rw [presentedAt, hentry, if_neg hne] at hk
      exact absurd hk (by simpa [presentedAt] using not_presentedAt_of_none hp k)
    exact fun j k hj hk => (honly j hj).trans (honly k hk).symm
  | elapsed =>
    refine hs.of_presentedAt fun k hk => ?_
    rw [presentedAt, elapse_entry, Option.any_map] at hk
    simpa only [presentedAt, Function.comp_def, (OutEntry.microsecond_rest _).1] using hk
  | portReset =>
    refine hs.of_presentedAt fun k hk => ?_
    have hstate : ∀ e : OutEntry, (if e.request.owner.source = .forward then { e with orphaned := true } else e).state = e.state :=
      fun e => by split <;> rfl
    rw [presentedAt, discardForReset_entry, Option.any_map] at hk
    simpa only [presentedAt, Function.comp_def, hstate] using hk
  | powerOn =>
    intro j k hj
    simp [assertPor, State.reset, State.entry] at hj
  | slot | freed | forgotten | captureQueued | triggerQueued | offered | settings | eventRead | replied | delivered
  | admitted | responded | waits | parked | unplaced | passBegins | passEnds | entryLeaves | entryStays => exact hs

/-! ### The admission law (R105, R118, R121) -/

/-- A change of neither the requests, the responses, the waiting arrival, the park list's length nor the pass. -/
theorem AdmissionBounded.congr {s t : State} (h : AdmissionBounded s) (ha : t.admitted = s.admitted)
    (hr : t.responses = s.responses) (hw : t.waiting = s.waiting) (hp : t.park.length = s.park.length)
    (hc : t.pass = s.pass) : AdmissionBounded t :=
  ⟨ha ▸ h.distinct, by rw [ha, hr]; exact h.together, by rw [ha, hr, hw]; exact h.waitingBelow, hp ▸ h.parked,
    by rw [hp, hc]; exact h.cursor⟩

theorem answer_admitted_nodup {s : State} (h : s.admitted.Nodup) (q : Requester) (g : Tag) (st : SysStatus)
    (d : Option LineData) : (answer q g st d s).admitted.Nodup := h.erase _

/-- What a decision leaves: the count of requests and responses together, and what the passes go by. -/
theorem Decision.admission {s t : State} (h : Decision s t) :
    t.admitted.length + t.responses.length = s.admitted.length + s.responses.length ∧ t.waiting = s.waiting ∧
      t.park = s.park ∧ t.pass = s.pass := by
  cases h with
  | answer q g st d => exact ⟨answer_together q g st d s, rfl, rfl, rfl⟩
  | window | event | trigger | forward | capture => exact ⟨rfl, rfl, rfl, rfl⟩

theorem Decision.admitted_nodup {s t : State} (h : Decision s t) (hs : s.admitted.Nodup) : t.admitted.Nodup := by
  cases h with
  | answer q g st d => exact answer_admitted_nodup hs q g st d
  | window | event | trigger | forward | capture => exact hs

theorem Decision.admissionBounded {s t : State} (h : Decision s t) (hs : AdmissionBounded s) : AdmissionBounded t := by
  obtain ⟨htogether, hwaiting, hpark, hpass⟩ := h.admission
  exact ⟨h.admitted_nodup hs.distinct, htogether ▸ hs.together, by rw [htogether, hwaiting]; exact hs.waitingBelow,
    hpark ▸ hs.parked, by rw [hpark, hpass]; exact hs.cursor⟩

/-- Where there is room fewer than 64 requests and responses are held (R105, R118). -/
theorem AdmissionBounded.below {s : State} (h : AdmissionBounded s) (hr : hasRoom s) :
    s.admitted.length + s.responses.length < 64 := hr.elim h.waitingBelow id

theorem Change.admissionBounded {s t : State} (h : Change s t) (hs : AdmissionBounded s) : AdmissionBounded t := by
  cases h with
  | decision _ h => exact h.admissionBounded hs
  | learned w g l =>
    rw [filterInsert_rest]
    exact hs.congr rfl rfl rfl rfl rfl
  | granted t src => cases src <;> exact hs.congr rfl rfl rfl rfl rfl
  | portReset | powerOn =>
    exact ⟨List.nodup_nil, Nat.zero_le _, fun hw => (nomatch hw), Nat.zero_le _, fun _ hp => (nomatch hp)⟩
  | delivered =>
    have htail : s.responses.tail.length ≤ s.responses.length := by simp
    refine ⟨hs.distinct, (Nat.add_le_add_left htail _).trans hs.together,
      fun hw => lt_of_le_of_lt (Nat.add_le_add_left htail _) (hs.waitingBelow hw), hs.parked, hs.cursor⟩
  | admitted r hn hr =>
    refine ⟨?_, ?_, fun hw => (nomatch hw), hs.parked, hs.cursor⟩
    · exact List.nodup_append.mpr ⟨hs.distinct, List.nodup_singleton _, fun a ha b hb => by
        rw [List.mem_singleton.mp hb]
        rintro rfl
        exact hn ha⟩
    · have hlt := hs.below hr
      simp only [takeIn, List.length_append, List.length_singleton]
      omega
  | responded r hr =>
    refine ⟨hs.distinct, ?_, fun hw => (nomatch hw), hs.parked, hs.cursor⟩
    have hlt := hs.below hr
    simp only [respond, List.length_append, List.length_singleton]
    omega
  | waits r hr => exact ⟨hs.distinct, hs.together, fun _ => hs.below hr, hs.parked, hs.cursor⟩
  | parked e hlt =>
    refine ⟨hs.distinct, hs.together, hs.waitingBelow, by simpa using hlt, fun n hn => ?_⟩
    exact (hs.cursor n hn).trans (by simp)
  | unplaced w => exact hs.congr rfl rfl rfl (by simp [unplaceParked]) rfl
  | passBegins => exact ⟨hs.distinct, hs.together, hs.waitingBelow, hs.parked, fun n hn => Option.some.inj hn ▸ Nat.zero_le _⟩
  | passEnds => exact ⟨hs.distinct, hs.together, hs.waitingBelow, hs.parked, fun n hn => nomatch hn⟩
  | entryLeaves n hn hlt =>
    have hlen : (s.park.eraseIdx n).length = s.park.length - 1 := by simp [List.length_eraseIdx, hlt]
    refine ⟨hs.distinct, hs.together, hs.waitingBelow, ?_, fun m hm => ?_⟩
    · have := hs.parked
      show (s.park.eraseIdx n).length ≤ 32
      omega
    · have heq : n = m := Option.some.inj (hn.symm.trans hm)
      show m ≤ (s.park.eraseIdx n).length
      omega
  | entryStays n e hlt =>
    refine ⟨hs.distinct, hs.together, hs.waitingBelow, by simpa using hs.parked, fun m hm => ?_⟩
    obtain rfl := Option.some.inj hm
    simpa using hlt
  | slot | freed | forgotten | captureQueued | triggerQueued | offered | entryFreed | entry | elapsed | settings | eventRead
  | replied => exact hs.congr rfl rfl rfl rfl rfl

/-! ### The filter (R23, R27) -/

theorem FilterSetOk.sublist {index : Nat} {set set' : FilterSet} (h : FilterSetOk index set) (hs : set'.Sublist set) :
    FilterSetOk index set' :=
  ⟨fun e he => h.place e (hs.subset he), h.ways.sublist (hs.map _), h.lines.sublist (hs.map _)⟩

theorem filterSetOk_nil (index : Nat) : FilterSetOk index [] :=
  ⟨fun _ he => (nomatch he), List.nodup_nil, List.nodup_nil⟩

/-- A set that is read is empty or listed. -/
theorem filterGet_mem (f : List (Nat × FilterSet)) (k : Nat) : filterGet f k = [] ∨ (k, filterGet f k) ∈ f := by
  induction f with
  | nil => exact .inl rfl
  | cons p rest ih =>
    obtain ⟨i, v⟩ := p
    by_cases hik : i = k
    · subst hik
      exact .inr (by simp [filterGet])
    · simp only [filterGet, hik, if_false]
      exact ih.imp id (List.mem_cons_of_mem _)

theorem FilterOk.filterGet_ok {s : State} (h : FilterOk s) (k : Nat) : FilterSetOk k (filterGet s.filter k) := by
  rcases filterGet_mem s.filter k with hg | hg
  · rw [hg]
    exact filterSetOk_nil k
  · exact h.sets _ hg

/-- An entry for the same window and line gives up its way to the one inserted (R27). -/
theorem chooseWay_of_mem {index : Nat} {set : FilterSet} (h : FilterSetOk index set) (live : FilterEntry → Bool)
    {e : FilterEntry} (he : e ∈ set) : chooseWay live set e.window e.line = e.way := by
  have hsome : (set.find? (fun a => a.window == e.window && a.line == e.line)).isSome = true :=
    List.find?_isSome.mpr ⟨e, he, by simp⟩
  obtain ⟨a, ha⟩ := Option.isSome_iff_exists.mp hsome
  have hp := List.find?_some ha
  simp only [Bool.and_eq_true, beq_iff_eq] at hp
  have heq : a = e := List.inj_on_of_nodup_map h.lines (List.mem_of_find?_eq_some ha) he (Prod.ext hp.1 hp.2)
  simp only [chooseWay, ha, heq]

theorem FilterSetOk.insert {index : Nat} {set : FilterSet} (h : FilterSetOk index set) (live : FilterEntry → Bool)
    (w : WindowIdx) (g : Nat) {l : Line} (hl : filterIndex l = index) : FilterSetOk index (insertInSet live set w g l) := by
  have hkept := h.sublist (List.filter_sublist (p := fun e => e.way != chooseWay live set w l))
  have hway : ∀ e ∈ set.filter (fun e => e.way != chooseWay live set w l), e.way ≠ chooseWay live set w l := fun e he => by
    simpa using (List.mem_filter.mp he).2
  unfold insertInSet
  refine ⟨fun e he => ?_, ?_, ?_⟩
  · rcases List.mem_append.mp he with he | he
    · exact hkept.place e he
    · rw [List.mem_singleton.mp he]
      exact hl
  · rw [List.map_append, List.nodup_append]
    refine ⟨hkept.ways, List.nodup_singleton _, fun a ha b hb => ?_⟩
    obtain ⟨e, he, rfl⟩ := List.mem_map.mp ha
    simp only [List.map_cons, List.map_nil, List.mem_singleton] at hb
    rw [hb]
    exact hway e he
  · rw [List.map_append, List.nodup_append]
    refine ⟨hkept.lines, List.nodup_singleton _, fun a ha b hb => ?_⟩
    obtain ⟨e, he, rfl⟩ := List.mem_map.mp ha
    simp only [List.map_cons, List.map_nil, List.mem_singleton] at hb
    rw [hb]
    intro heq
    obtain ⟨rfl, rfl⟩ := Prod.mk.inj heq
    exact hway e he (chooseWay_of_mem h live (List.mem_filter.mp he).1).symm

theorem FilterOk.filterInsert {s : State} (h : FilterOk s) (w : WindowIdx) (g : Nat) (l : Line) :
    FilterOk (Machine.filterInsert w g l s) := by
  refine ⟨filterInsert_canonical w g l s h.canonical, ?_⟩
  unfold Machine.filterInsert
  split
  · intro p hp
    rcases mem_filterPut hp with hp | ⟨rfl, -⟩
    · exact h.sets p hp
    · exact (h.filterGet_ok _).insert _ w g rfl
  · exact h.sets

theorem FilterOk.filterRemove {s : State} (h : FilterOk s) (w : WindowIdx) : FilterOk (Machine.filterRemove w s) := by
  refine ⟨filterRemove_canonical w s h.canonical, fun p hp => ?_⟩
  obtain ⟨q, hq, rfl⟩ := List.mem_map.mp (List.mem_filter.mp hp).1
  exact (h.sets q hq).sublist List.filter_sublist

theorem FilterOk.of_eq {s t : State} (h : FilterOk s) (hf : t.filter = s.filter) : FilterOk t :=
  ⟨hf ▸ h.canonical, hf ▸ h.sets⟩

theorem Change.filterOk {s t : State} (h : Change s t) (hs : FilterOk s) : FilterOk t := by
  cases h with
  | decision _ h => exact hs.of_eq (by cases h <;> rfl)
  | learned w g l => exact hs.filterInsert w g l
  | forgotten w => exact hs.filterRemove w
  | granted t src => cases src <;> exact hs.of_eq rfl
  | powerOn => exact ⟨rfl, fun _ hp => nomatch hp⟩
  | slot | freed | captureQueued | triggerQueued | offered | entryFreed | entry | elapsed | portReset | settings | eventRead
  | replied | delivered | admitted | responded | waits | parked | unplaced | passBegins | passEnds | entryLeaves
  | entryStays => exact hs.of_eq rfl

/-! ### One request per line (R113) -/

/-- The lines of the forwarded requests that wait in the forward queue. -/
def queueLines (s : State) : Multiset Line := ((s.forwardQ.filter (·.isForwarded)).map (·.line) : List Line)

/-- The lines of the busy slots. -/
def slotLines (s : State) : Multiset Line := (s.busySlots.map (·.line) : List Line)

/-- The lines of the forwarded requests among the occupied entries. -/
def tableLines (l : List OutEntry) : Multiset Line := ((l.filter (·.request.isForwarded)).map (·.request.line) : List Line)

theorem oneRequestPerLine_iff (s : State) :
    OneRequestPerLine s ↔ (queueLines s + slotLines s + tableLines s.occupied).Nodup ∧
      (∀ r ∈ s.captureQ, r.isForwarded = false) ∧ ∀ r, s.rewindOffer = some r → r.isForwarded = false := by
  have hlines : (placedLines s).Nodup ↔ (queueLines s + slotLines s + tableLines s.occupied).Nodup := by
    rw [queueLines, slotLines, tableLines, Multiset.coe_add, Multiset.coe_add, Multiset.coe_nodup]
    rfl
  rw [← hlines]
  exact ⟨fun h => ⟨h.lines, h.captureOwn, h.rewindOwn⟩, fun ⟨h1, h2, h3⟩ => ⟨h1, h2, h3⟩⟩

theorem tableLines_perm {l l' : List OutEntry} (h : l.Perm l') : tableLines l = tableLines l' :=
  Multiset.coe_eq_coe.mpr ((h.filter _).map _)

theorem tableLines_cons (e : OutEntry) (l : List OutEntry) :
    tableLines (e :: l) = (if e.request.isForwarded then {e.request.line} else 0) + tableLines l := by
  cases h : e.request.isForwarded <;> simp [tableLines, h]

theorem slotLines_free {s : State} {k : SlotIdx} {sl : Slot} (h : s.slot k = some sl) :
    slotLines s = sl.line ::ₘ slotLines (s.setSlot k none) :=
  Multiset.coe_eq_coe.mpr ((busySlots_free h).map _)

theorem slotLines_fill {s : State} {k : SlotIdx} (sl : Slot) (h : s.slot k = none) :
    slotLines (s.setSlot k (some sl)) = sl.line ::ₘ slotLines s :=
  Multiset.coe_eq_coe.mpr ((busySlots_fill sl h).map _)

theorem slotLines_setSlot {s : State} {k : SlotIdx} {sl sl' : Slot} (h : s.slot k = some sl) (hl : sl'.line = sl.line) :
    slotLines (s.setSlot k (some sl')) = slotLines s := by
  rw [slotLines_free h, ← hl]
  exact Multiset.coe_eq_coe.mpr ((busySlots_replace sl').map _)

theorem MemRequest.holdsLine_of_isForwarded {r : MemRequest} (h : r.isForwarded = true) : r.owner.holdsLine = true := by
  unfold MemRequest.isForwarded at h
  split at h <;> simp_all [Owner.holdsLine]

/-- A line that is not held is the line of no placed request (R113). -/
theorem not_mem_of_lineHeld {s : State} {l : Line} (h : lineHeld s l = false) :
    l ∉ queueLines s + slotLines s + tableLines s.occupied := by
  simp only [lineHeld, Bool.or_eq_false_iff, List.any_eq_false] at h
  obtain ⟨⟨⟨hq, hs⟩, -⟩, ht⟩ := h
  have hhold : ∀ r : MemRequest, r.isForwarded = true → r.line = l → r.holds l = true := fun r hr hl => by
    simp [MemRequest.holds, MemRequest.holdsLine_of_isForwarded hr, hl]
  rw [Multiset.mem_add, Multiset.mem_add]
  rintro ((hm | hm) | hm)
  · obtain ⟨r, hr, hl⟩ := List.mem_map.mp (Multiset.mem_coe.mp hm)
    exact hq r (List.mem_filter.mp hr).1 (hhold r (List.mem_filter.mp hr).2 hl)
  · obtain ⟨k, hk, hl⟩ := List.mem_map.mp (Multiset.mem_coe.mp hm)
    exact hs k hk (by simp [hl])
  · obtain ⟨e, he, hl⟩ := List.mem_map.mp (Multiset.mem_coe.mp hm)
    exact ht e (List.mem_filter.mp he).1 (hhold e.request (List.mem_filter.mp he).2 hl)

/-- A change that adds no placed line keeps the law, with the two queues' own requests. -/
theorem OneRequestPerLine.of_le {s t : State} (h : OneRequestPerLine s)
    (hl : queueLines t + slotLines t + tableLines t.occupied ≤ queueLines s + slotLines s + tableLines s.occupied)
    (hc : ∀ r ∈ t.captureQ, r.isForwarded = false) (hr : ∀ r, t.rewindOffer = some r → r.isForwarded = false) :
    OneRequestPerLine t :=
  (oneRequestPerLine_iff t).mpr ⟨Multiset.nodup_of_le hl ((oneRequestPerLine_iff s).mp h).1, hc, hr⟩

/-- A change that adds one placed line, which was not held, keeps the law. -/
theorem OneRequestPerLine.of_cons {s t : State} (h : OneRequestPerLine s) {l : Line} (hf : lineHeld s l = false)
    (hl : queueLines t + slotLines t + tableLines t.occupied = l ::ₘ (queueLines s + slotLines s + tableLines s.occupied))
    (hc : ∀ r ∈ t.captureQ, r.isForwarded = false) (hr : ∀ r, t.rewindOffer = some r → r.isForwarded = false) :
    OneRequestPerLine t := by
  rw [oneRequestPerLine_iff, hl, Multiset.nodup_cons]
  exact ⟨⟨not_mem_of_lineHeld hf, ((oneRequestPerLine_iff s).mp h).1⟩, hc, hr⟩

theorem OneRequestPerLine.congr {s t : State} (h : OneRequestPerLine s) (hq : t.forwardQ = s.forwardQ)
    (hs : t.slots = s.slots) (ht : t.table = s.table) (hc : t.captureQ = s.captureQ) (hr : t.rewindOffer = s.rewindOffer) :
    OneRequestPerLine t := by
  refine h.of_le (le_of_eq ?_) (hc ▸ h.captureOwn) (hr ▸ h.rewindOwn)
  simp only [queueLines, slotLines, State.busySlots, State.occupied, hq, hs, ht]

theorem Decision.oneRequestPerLine {s t : State} (h : Decision s t) (hs : OneRequestPerLine s) : OneRequestPerLine t := by
  cases h with
  | window | event | trigger | answer => exact hs.congr rfl rfl rfl rfl rfl
  | forward r hf =>
    refine hs.of_cons hf ?_ hs.captureOwn hs.rewindOwn
    have hq : queueLines (Machine.forward r s) = r.line ::ₘ queueLines s := by
      simp only [queueLines, Machine.forward, List.filter_append, List.map_append, Multiset.cons_coe, Multiset.coe_eq_coe]
      exact List.perm_append_comm
    rw [hq, Multiset.cons_add, Multiset.cons_add]
    rfl
  | capture k w r hk hf =>
    refine hs.of_cons hf ?_ ?_ hs.rewindOwn
    · have hq : slotLines ((s.setWindow w (s.window w).captured).setSlot k (some (slotFor w (s.window w) r))) =
          r.line ::ₘ slotLines s := slotLines_fill (s := s.setWindow w _) _ hk
      rw [← Multiset.cons_add, ← Multiset.add_cons, ← hq]
      rfl
    · intro q hq
      rcases List.mem_append.mp hq with hq | hq
      · exact hs.captureOwn q hq
      · rw [List.mem_singleton.mp hq]
        rfl

/-- A granted request goes from its source into the table with its line. -/
theorem oneRequestPerLine_granted {s : State} (hs : OneRequestPerLine s) {t : Ticket} {src : Source} {r : MemRequest}
    (ht : s.entry t = none) (hr : sourceRequest s src = some r) :
    OneRequestPerLine { (takeFromSource s src).setEntry t (some (OutEntry.granted r)) with lastSource := src } := by
  have htable : tableLines ({ (takeFromSource s src).setEntry t (some (OutEntry.granted r)) with lastSource := src } : State).occupied =
      (if r.isForwarded then {r.line} else 0) + tableLines s.occupied := by
    have hperm : ({ (takeFromSource s src).setEntry t (some (OutEntry.granted r)) with lastSource := src } : State).occupied.Perm
        (OutEntry.granted r :: s.occupied) := by
      cases src <;> exact occupied_fill (s := s) (OutEntry.granted r) ht
    rw [tableLines_perm hperm, tableLines_cons]
    rfl
  cases src with
  | forward =>
    obtain ⟨rest, hq⟩ : ∃ rest, s.forwardQ = r :: rest := by
      cases hq : s.forwardQ with
      | nil => simp [sourceRequest, hq] at hr
      | cons a rest => exact ⟨rest, by simpa [sourceRequest, hq] using hr⟩
    refine hs.of_le (le_of_eq ?_) hs.captureOwn hs.rewindOwn
    have hqueue : queueLines s = (if r.isForwarded then {r.line} else 0) + queueLines { s with forwardQ := rest } := by
      cases hf : r.isForwarded <;> simp [queueLines, hq, hf]
    rw [htable, hqueue]
    show queueLines { s with forwardQ := s.forwardQ.tail } + slotLines s + _ = _
    rw [hq, List.tail_cons]
    abel
  | capture =>
    have hmem : r ∈ s.captureQ := List.mem_of_mem_head? hr
    refine hs.of_le (le_of_eq ?_) (fun a ha => hs.captureOwn a (List.mem_of_mem_tail ha)) hs.rewindOwn
    rw [htable, if_neg (by simp [hs.captureOwn r hmem]), zero_add]
    rfl
  | rewind =>
    refine hs.of_le (le_of_eq ?_) hs.captureOwn (fun a ha => nomatch ha)
    rw [htable, if_neg (by simp [hs.rewindOwn r hr]), zero_add]
    rfl

theorem tableLines_map {f : OutEntry → OutEntry} (h : ∀ e, (f e).request = e.request) (l : List OutEntry) :
    tableLines (l.map f) = tableLines l := by
  simp [tableLines, List.filter_map, Function.comp_def, h]

theorem Change.oneRequestPerLine {s t : State} (h : Change s t) (hs : OneRequestPerLine s) : OneRequestPerLine t := by
  cases h with
  | decision _ h => exact h.oneRequestPerLine hs
  | slot k sl sl' h hw hg hl =>
    refine hs.of_le (le_of_eq ?_) hs.captureOwn hs.rewindOwn
    rw [slotLines_setSlot h hl]
    rfl
  | freed k sl v h =>
    refine hs.of_le ?_ hs.captureOwn hs.rewindOwn
    rw [slotLines_free h]
    exact add_le_add_left (add_le_add_right (Multiset.le_cons_self _ _) _) _
  | learned w g l =>
    rw [filterInsert_rest]
    exact hs.congr rfl rfl rfl rfl rfl
  | captureQueued q hq =>
    exact hs.of_le le_rfl (fun r hr => (List.mem_append.mp hr).elim (hs.captureOwn r) (hq r)) hs.rewindOwn
  | triggerQueued r hr =>
    refine hs.of_le (le_of_eq ?_) hs.captureOwn hs.rewindOwn
    have hq : queueLines { s with forwardQ := s.forwardQ ++ [r] } = queueLines s := by simp [queueLines, hr]
    rw [hq]
    rfl
  | offered r w hr => exact hs.of_le le_rfl hs.captureOwn (fun a ha => Option.some.inj ha ▸ hr)
  | entryFreed t =>
    refine hs.of_le (add_le_add_right ?_ _) hs.captureOwn hs.rewindOwn
    cases he : s.entry t with
    | none =>
      have heq : s.setEntry t none = s := by
        simp only [State.setEntry, ← he]
        simp [State.entry]
      rw [heq]
    | some e =>
      rw [tableLines_perm (occupied_free he), tableLines_cons]
      exact Multiset.le_add_left _ _
  | entry t e e' he hr =>
    refine hs.of_le (le_of_eq ?_) hs.captureOwn hs.rewindOwn
    rw [tableLines_perm (occupied_replace e'), tableLines_perm (occupied_free he), tableLines_cons, tableLines_cons, hr]
    rfl
  | granted t src r ht hp hr => exact oneRequestPerLine_granted hs ht hr
  | elapsed =>
    refine hs.of_le (le_of_eq ?_) hs.captureOwn hs.rewindOwn
    have hocc : (elapse s).occupied = s.occupied.map OutEntry.microsecond := by
      simp only [State.occupied, elapse, Vector.toList_map]
      exact filterMap_id_map _ _
    rw [hocc, tableLines_map fun e => e.microsecond_rest.2]
    rfl
  | portReset =>
    refine hs.of_le ?_ hs.captureOwn hs.rewindOwn
    have hocc : (discardForReset s).occupied = s.occupied.map (fun e =>
        if e.request.owner.source = .forward then { e with orphaned := true } else e) := by
      simp only [State.occupied, discardForReset, orphanForward, Vector.toList_map]
      exact filterMap_id_map _ _
    have hbusy : (discardForReset s).busySlots = s.busySlots.map (fun sl => if sl.beforeForwarding then sl.drop else sl) := by
      simp only [State.busySlots, discardForReset, dropTriggers, Vector.toList_map]
      exact filterMap_id_map _ _
    have hline : ∀ sl : Slot, (if sl.beforeForwarding then sl.drop else sl).line = sl.line := fun sl => by split <;> rfl
    have hslots : slotLines (discardForReset s) = slotLines s := by
      simp [slotLines, hbusy, Function.comp_def, hline]
    have hqueue : queueLines (discardForReset s) = 0 := rfl
    rw [hocc, tableLines_map fun e => by split <;> rfl, hslots, hqueue, zero_add]
    exact add_le_add_left (Multiset.le_add_left _ _) _
  | powerOn =>
    refine hs.of_le ?_ (fun _ hr => nomatch hr) (fun _ hr => nomatch hr)
    have hnone : queueLines (assertPor s) + slotLines (assertPor s) + tableLines (assertPor s).occupied = 0 := by
      simp [queueLines, slotLines, tableLines, assertPor, State.reset, State.busySlots, State.occupied]
    rw [hnone]
    exact Multiset.zero_le _
  | forgotten | settings | eventRead | replied | delivered | admitted | responded | waits | parked | unplaced | passBegins
  | passEnds | entryLeaves | entryStays => exact hs.congr rfl rfl rfl rfl rfl

end Sys2Proof.Machine
end

section
/-! The operations of windows, slots and the rewind engine as runs of changes: an operation of one window writes its record and
reports events and triggers. -/

namespace Sys2Proof.Machine

open Sys2Proof

/-! ### One record written, and reports -/

/-- An event is produced, or a trigger for re-examination raised. -/
inductive Report (s : State) : State → Prop where
  | event (b : EventBody) : Report s (emit b s)
  | trigger : Report s (raiseTrigger s)

/-- A run of events and triggers. -/
abbrev Reports : State → State → Prop := Relation.ReflTransGen Report

theorem Reports.setWindow {s t : State} (h : Reports s t) (w : WindowIdx) (v : Window) :
    Reports (s.setWindow w v) (t.setWindow w v) := by
  induction h with
  | refl => exact .refl
  | tail _ hr ih =>
    cases hr with
    | event b => exact ih.tail (.event b)
    | trigger => exact ih.tail .trigger

theorem Reports.decisions {s t : State} (h : Reports s t) : Decisions s t := by
  induction h with
  | refl => exact .refl
  | tail _ hr ih =>
    cases hr with
    | event b => exact ih.tail (.event b)
    | trigger => exact ih.tail .trigger

theorem Reports.windows {s t : State} (h : Reports s t) : t.windows = s.windows := by
  induction h with
  | refl => rfl
  | tail _ hr ih => cases hr <;> exact ih

theorem Reports.slots {s t : State} (h : Reports s t) : t.slots = s.slots := by
  induction h with
  | refl => rfl
  | tail _ hr ih => cases hr <;> exact ih

/-- The record of a window is written, and events and triggers are reported: `t` is what that leaves of `s`. -/
def Writes (w : WindowIdx) (v : Window) (s t : State) : Prop := Reports (s.setWindow w v) t

theorem writes_setWindow (w : WindowIdx) (v : Window) (s : State) : Writes w v s (s.setWindow w v) := .refl

theorem writes_self (w : WindowIdx) (s : State) : Writes w (s.window w) s s := by
  unfold Writes
  rw [setWindow_window]

theorem Writes.event {w : WindowIdx} {v : Window} {s t : State} (h : Writes w v s t) (b : EventBody) :
    Writes w v s (emit b t) := h.tail (.event b)

theorem Writes.trigger {w : WindowIdx} {v : Window} {s t : State} (h : Writes w v s t) : Writes w v s (raiseTrigger t) :=
  h.tail .trigger

theorem Writes.trans {w : WindowIdx} {v v' : Window} {s t u : State} (h : Writes w v s t) (k : Writes w v' t u) :
    Writes w v' s u := by
  have hset := h.setWindow w v'
  rw [setWindow_setWindow] at hset
  exact hset.trans k

theorem Writes.window {w : WindowIdx} {v : Window} {s t : State} (h : Writes w v s t) : t.window w = v := by
  have hw := h.windows
  have : t.window w = (s.setWindow w v).window w := by simp only [State.window, hw]
  rw [this, window_setWindow_self]

theorem Writes.modWindow {w : WindowIdx} {v : Window} {s t : State} (h : Writes w v s t) (f : Window → Window) :
    Writes w (f v) s (t.modWindow w f) := by
  rw [State.modWindow, h.window]
  exact h.trans (writes_setWindow w (f v) t)

theorem Writes.slotGens {w : WindowIdx} {v : Window} {s t : State} (h : Writes w v s t) (u : WindowIdx) :
    t.slotGens u = s.slotGens u := by
  have hs : t.slots = s.slots := h.slots
  simp only [State.slotGens, State.slotsOf, State.busySlots, hs]

/-- A write that is a move of the window is a run of a decision's changes. -/
theorem Writes.decisions {w : WindowIdx} {v : Window} {s t : State} (h : Writes w v s t)
    (m : WindowMove (s.window w) (s.slotGens w) v (s.slotGens w)) : Decisions s t :=
  .head (.window w v m) (Reports.decisions h)

/-! ### The operations of one window -/

theorem writes_releaseOldest (w : WindowIdx) (cause : ReleaseCause) (s : State) :
    Writes w (s.window w).released s (releaseOldest w cause s) := by
  unfold releaseOldest
  split
  · rename_i hg
    have hsame : (s.window w).released = s.window w := by simp only [Window.released, hg]
    rw [hsame]
    exact writes_self w s
  · rename_i m rest hg
    rw [Window.released_cons hg]
    simp only
    split
    · exact (writes_setWindow w _ s).event _
    · exact ((writes_setWindow w _ s).event _).trigger

theorem writes_depthLoop (w : WindowIdx) (n : Nat) (s : State) : Writes w ((s.window w).trim n) s (depthLoop w n s) := by
  induction n generalizing s with
  | zero => exact writes_self w s
  | succ n ih =>
    simp only [depthLoop, Window.trim]
    split
    · have h := ih (releaseOldest w .depth s)
      rw [window_releaseOldest] at h
      exact (writes_releaseOldest w .depth s).trans h
    · exact writes_self w s

theorem writes_depthRule (w : WindowIdx) (s : State) : Writes w (s.window w).trimmed s (depthRule w s) :=
  writes_depthLoop w _ s

/-- An operation of one window followed by the depth rule. -/
theorem Writes.depthRule {w : WindowIdx} {v : Window} {s t : State} (h : Writes w v s t) :
    Writes w v.trimmed s (Machine.depthRule w t) := by
  have hd := writes_depthRule w t
  rw [h.window] at hd
  exact h.trans hd

theorem writes_closeGeneration (w : WindowIdx) (k : CloseCause) (s : State) :
    Writes w ((s.window w).closedBy k).trimmed s (closeGeneration w k s) := by
  unfold closeGeneration
  simp only
  split
  · split
    · exact ((writes_setWindow w _ s).event _).depthRule
    · exact (writes_setWindow w _ s).depthRule
  · exact (writes_setWindow w _ s).depthRule

/-- A quiet close with no number left writes the timer; with one left it closes the generation (R97, R99). -/
theorem writes_quietClose (w : WindowIdx) (s : State) :
    Writes w
      (if (s.window w).exhausted then { s.window w with timer := QuietTimer.stop true, quietClosePending := false }
       else ((s.window w).closedBy .quiet).trimmed) s (quietClose w s) := by
  unfold quietClose
  simp only
  split
  · exact (writes_setWindow w _ s).event _
  · exact writes_closeGeneration w .quiet s

theorem decisions_closeGeneration {w : WindowIdx} {s : State} (k : CloseCause) (ha : (s.window w).state = .armed)
    (hc : (s.window w).hasClosing = false) : Decisions s (closeGeneration w k s) :=
  (writes_closeGeneration w k s).decisions (.close k ha hc)

theorem decisions_quietExpiry {w : WindowIdx} {s : State} (ha : (s.window w).state = .armed) :
    Decisions s (quietExpiry w s) := by
  unfold quietExpiry
  simp only
  split
  · exact ((writes_setWindow w _ s).event _).decisions (.time _ _ fun _ => .inl ha)
  · split
    · exact (writes_setWindow w _ s).decisions (.time _ _ fun _ => .inl ha)
    · rename_i hc
      have h := writes_quietClose w s
      split at h
      · exact h.decisions (.time _ _ fun _ => .inl ha)
      · exact h.decisions (.close .quiet ha (by simpa using hc))

theorem writes_disarmCompletion (w : WindowIdx) (s : State) : Writes w (s.window w).disarmed s (disarmCompletion w s) :=
  ((writes_setWindow w _ s).event _).trigger

theorem decisions_reportPlacement {w : WindowIdx} {s : State} (c : ReqClass) (ha : (s.window w).state = .armed) :
    Decisions s (reportPlacement w c s) :=
  (writes_setWindow w _ s).decisions (.time _ (s.window w).quietClosePending fun _ => .inl ha)

/-! ### The freeing of a slot (R13, R31, R41) -/

/-- Moves of one window that leave its slots as they are. -/
abbrev WindowMoves (g : Multiset Nat) : Window → Window → Prop := Relation.ReflTransGen (fun v v' => WindowMove v g v' g)

theorem Writes.decisions_of_moves {w : WindowIdx} {v : Window} {s t : State} (h : Writes w v s t)
    (m : WindowMoves (s.slotGens w) (s.window w) v) : Decisions s t := by
  refine .trans ?_ (Reports.decisions h)
  clear h
  induction m with
  | refl =>
    rw [setWindow_window]
  | @tail v v' _ hm ih =>
    refine ih.tail ?_
    rw [← setWindow_setWindow s w v v']
    refine .window w v' ?_
    rw [window_setWindow_self]
    exact hm

/-- The completion of a CLOSING generation writes the record of `closingDone`, and, with a quiet close pending, moves on by it. -/
theorem writes_generationClosed (w : WindowIdx) (m : GenEntry) (s : State) :
    ∃ v, Writes w v s (generationClosed w m s) ∧
      (v = (s.window w).closingDone m ∨
        ((s.window w).state = .armed ∧ (v = (((s.window w).closingDone m).closedBy .quiet).trimmed ∨
          v = { (s.window w).closingDone m with timer := QuietTimer.stop true, quietClosePending := false }))) := by
  have hclosed : Writes w ((s.window w).closingDone m) s
      (if (s.window w).state = .armed ∨ (s.window w).state = .rewinding then
        depthRule w (emit { kind := .genClosed, window := some w, generation := some m.number,
                            cause := m.closeCause.map Cause.close }
          (s.setWindow w { s.window w with gens := mapNumber m.number (fun e => { e with state := .closed }) (s.window w).gens }))
       else emit { kind := .genClosed, window := some w, generation := some m.number,
                   cause := m.closeCause.map Cause.close }
          (s.setWindow w { s.window w with gens := mapNumber m.number (fun e => { e with state := .closed }) (s.window w).gens })) := by
    unfold Window.closingDone
    simp only
    split
    · exact ((writes_setWindow w _ s).event _).depthRule
    · exact (writes_setWindow w _ s).event _
  unfold generationClosed
  simp only
  split
  · rename_i ha
    have hmod := hclosed.modWindow (fun u => { u with quietClosePending := false })
    have hquiet := hmod.trans (writes_quietClose w _)
    rw [hmod.window] at hquiet
    refine ⟨_, hquiet, .inr ⟨ha.1, ?_⟩⟩
    split
    · exact .inr rfl
    · exact .inl rfl
  · exact ⟨_, hclosed, .inl rfl⟩

/-- The freeing of a slot in its generation's list: one move that takes the slot's generation away, and perhaps more. -/
theorem writes_generationSlotFreed (w : WindowIdx) (n : Nat) (s : State) (g : Multiset Nat) :
    ∃ u v, WindowMove (s.window w) (n ::ₘ g) u g ∧ WindowMoves g u v ∧ Writes w v s (generationSlotFreed w n s) ∧
      (v.state = (s.window w).state) := by
  have hlow : Writes w ((s.window w).lowered n) s (s.modWindow w (fun v =>
      { v with gens := mapNumber n (fun e => { e with slotsPending := e.slotsPending - 1 }) v.gens })) :=
    writes_setWindow w _ s
  have hplain : ∃ u v, WindowMove (s.window w) (n ::ₘ g) u g ∧ WindowMoves g u v ∧ Writes w v s (s.modWindow w (fun v =>
      { v with gens := mapNumber n (fun e => { e with slotsPending := e.slotsPending - 1 }) v.gens })) ∧
      v.state = (s.window w).state := ⟨_, _, .freed n g rfl, .refl, hlow, rfl⟩
  unfold generationSlotFreed
  simp only
  split
  · rename_i m hfind
    split
    · rename_i hc
      have hm : m ∈ ((s.window w).lowered n).gens := by
        have := List.mem_of_find?_eq_some hfind
        rwa [hlow.window] at this
      have hdone : (((s.window w).lowered n).closingDone m).state = (s.window w).state := by
        rw [Window.closingDone_rest]
        rfl
      obtain ⟨v, hv, hcase⟩ := writes_generationClosed w m (s.modWindow w (fun v =>
        { v with gens := mapNumber n (fun e => { e with slotsPending := e.slotsPending - 1 }) v.gens }))
      rw [hlow.window] at hcase
      have hwrites := hlow.trans hv
      rcases hcase with rfl | ⟨ha, rfl | rfl⟩
      · exact ⟨_, _, .freedLast n g m rfl hm hc.1, .refl, hwrites, hdone⟩
      · exact ⟨_, _, .freedLastQuiet n g m rfl hm hc.1 ha, .refl, hwrites, (Window.trimmed_state _).trans hdone⟩
      · exact ⟨_, _, .freedLast n g m rfl hm hc.1, .single (.time _ _ fun hr => absurd hr Bool.false_ne_true), hwrites, hdone⟩
    · exact hplain
  · exact hplain

theorem changes_freeSlotAt (k : SlotIdx) (s : State) : Changes s (freeSlotAt k s) := by
  cases hk : s.slot k with
  | none =>
    rw [freeSlotAt_of_free k s hk]
  | some sl =>
    have hgens : s.slotGens sl.window = sl.generation ::ₘ (s.setSlot k none).slotGens sl.window := by
      rw [slotGens_free hk, if_pos rfl]
    obtain ⟨u, v, hm, hms, hw, hstate⟩ := writes_generationSlotFreed sl.window sl.generation (s.setSlot k none)
      ((s.setSlot k none).slotGens sl.window)
    have hfreed : Change s ((s.setSlot k none).setWindow sl.window u) := .freed k sl u hk (hgens ▸ hm)
    have hrest : Decisions ((s.setSlot k none).setWindow sl.window u)
        (generationSlotFreed sl.window sl.generation (s.setSlot k none)) := by
      have hw' : Writes sl.window v ((s.setSlot k none).setWindow sl.window u)
          (generationSlotFreed sl.window sl.generation (s.setSlot k none)) := by
        unfold Writes
        rw [setWindow_setWindow]
        exact hw
      refine hw'.decisions_of_moves ?_
      rw [window_setWindow_self]
      exact hms
    have hfirst : Changes s (generationSlotFreed sl.window sl.generation (s.setSlot k none)) :=
      .head hfreed hrest.changes
    have htrigger : ∀ t : State, Changes t (raiseTrigger t) := fun t => .single (.decision _ .trigger)
    simp only [freeSlotAt, hk]
    split
    · rename_i hd
      refine (hfirst.trans (Decisions.changes ?_)).trans (htrigger _)
      refine (writes_disarmCompletion _ _).decisions (.disarmed (hasHistory_of_disarming hd.1) ?_)
      exact (slotGens_eq_zero_iff _ _).mpr (by simpa using hd.2)
    · exact hfirst.trans (htrigger _)

/-! ### Fault entry (R20, R42) -/

theorem Changes.decision {s t : State} (h : Decision s t) : Changes s t := .single (.decision _ h)

theorem changes_refuseTrigger (k : SlotIdx) (s : State) : Changes s (refuseTrigger k s) := by
  unfold refuseTrigger
  split
  · exact .refl
  · rename_i sl hk
    split
    · exact .refl
    · exact .head (.slot k sl sl.drop hk rfl rfl rfl) (Changes.decision (.answer _ _ _ _))

theorem changes_foldl {α : Type} {f : State → α → State} (hf : ∀ s a, Changes s (f s a)) (l : List α) (s : State) :
    Changes s (l.foldl f s) := by
  induction l generalizing s with
  | nil => exact .refl
  | cons a l ih => exact (hf s a).trans (ih _)

theorem changes_refuseTriggers (w : WindowIdx) (s : State) : Changes s (refuseTriggers w s) := by
  refine changes_foldl (fun s k => ?_) _ s
  split
  · split
    · exact changes_refuseTrigger k s
    · exact .refl
  · exact .refl

theorem changes_reportFailure (w : WindowIdx) (cause : FaultCause) (q : Option Seq) (l : Option Line) (s : State) :
    Changes s (reportFailure w cause q l s) := by
  unfold reportFailure
  simp only
  split
  · rename_i hs
    exact .head (.decision _ (.window w _ (.faulted _ hs)))
      (((changes_refuseTriggers w _).trans (Changes.decision (.event _))).trans (Changes.decision .trigger))
  · exact .refl

/-! ### The rewind engine -/

theorem window_modContext (w : WindowIdx) (f : RewindContext → RewindContext) (s : State) :
    (modContext w f s).window w = { s.window w with rewind := (s.window w).rewind.map f } := window_setWindow_self s w _

/-- A change of the context that keeps its target, and whether its drain has ended. -/
theorem decisions_modContext {w : WindowIdx} {s : State} {f : RewindContext → RewindContext} {c : RewindContext}
    (h : (s.window w).rewind = some c) (ht : (f c).target = c.target) (hs : (f c).stop.isSome = c.stop.isSome) :
    Decisions s (modContext w f s) := by
  refine .single ?_
  have hmap : modContext w f s = s.setWindow w { s.window w with rewind := some (f c) } := by
    simp only [modContext, State.modWindow, h, Option.map_some]
  rw [hmap]
  exact .window w _ (.context c (f c) h ht hs)

theorem modContext_of_none {w : WindowIdx} {s : State} (h : (s.window w).rewind = none) (f : RewindContext → RewindContext) :
    modContext w f s = s := by
  have hsame : ({ s.window w with rewind := (s.window w).rewind.map f } : Window) = s.window w := by
    rw [h, Option.map_none, ← h]
  simp only [modContext, State.modWindow, hsame, setWindow_window]

theorem decisions_takeRecord (w : WindowIdx) (s : State) : Decisions s (takeRecord w s) := by
  unfold takeRecord
  cases h : (s.window w).rewind with
  | none =>
    rw [modContext_of_none h]
  | some c => exact decisions_modContext h rfl rfl

theorem writes_pauseTakesEffect {w : WindowIdx} {s : State} {c : RewindContext} (h : (s.window w).rewind = some c) :
    Writes w { s.window w with state := .paused, rewind := some { c with pauseRequested := false } } s
      (pauseTakesEffect w s) := by
  simp only [pauseTakesEffect, h]
  exact ((writes_setWindow w _ s).event _).trigger

/-- The completion of a rewind, step by step (R79, R80). -/
theorem completeRewind_eq {w : WindowIdx} {s : State} {c : RewindContext} {f : StopFields}
    (h : (s.window w).rewind = some c) (hf : c.stop = some f) :
    completeRewind w s = raiseTrigger (emit
      { kind := .rewindDone, window := some w, generation := some ((s.window w).lastGen + 1), target := some c.target,
        targetMoved := some c.targetMoved, restored := some c.restored, skipped := some c.skipped }
      ((depthRule w (s.setWindow w ((s.window w).cutBack c f))).modWindow w
        (fun u => { u with state := .armed, rewind := none }))) := by
  simp only [completeRewind, Window.cutBack, h, hf]

theorem writes_completeRewind {w : WindowIdx} {s : State} {c : RewindContext} {f : StopFields}
    (h : (s.window w).rewind = some c) (hf : c.stop = some f) :
    Writes w ((s.window w).rewound c f) s (completeRewind w s) := by
  rw [completeRewind_eq h hf]
  have hcut := (writes_setWindow w ((s.window w).cutBack c f) s).depthRule
  exact ((hcut.modWindow (fun u => { u with state := .armed, rewind := none })).event _).trigger

theorem decisions_completeRewind {w : WindowIdx} {s : State} (hs : (s.window w).state = .rewinding) :
    Decisions s (completeRewind w s) := by
  cases h : (s.window w).rewind with
  | none =>
    simp only [completeRewind, h]
    exact .refl
  | some c =>
    cases hf : c.stop with
    | none =>
      simp only [completeRewind, h, hf]
      exact .refl
    | some f => exact (writes_completeRewind h hf).decisions (.rewound c f hs h hf)

theorem decisions_pauseTakesEffect {w : WindowIdx} {s : State} {c : RewindContext} (hs : (s.window w).state = .rewinding)
    (h : (s.window w).rewind = some c) (hf : c.stop.isSome = true) : Decisions s (pauseTakesEffect w s) :=
  (writes_pauseTakesEffect h).decisions (.pause c _ hs h hf rfl)

/-- The end of a record: the walk completes, pauses, or takes the next record (R73, R79, R83). -/
theorem decisions_finishRecord {w : WindowIdx} {s : State} {c0 : RewindContext} (c : RewindContext) (r : RecordInHand)
    (hs : (s.window w).state = .rewinding) (h : (s.window w).rewind = some c0) (ht : c.target = c0.target)
    (hstop : c.stop = c0.stop) : Decisions s (finishRecord w c r s) := by
  have hfinish : (c.finish r).stop.isSome = c0.stop.isSome := by simp [RewindContext.finish, hstop]
  have hfirst : Decisions s (modContext w (fun _ => c.finish r) s) := decisions_modContext h ht hfinish
  have hwin : (modContext w (fun _ => c.finish r) s).window w = { s.window w with rewind := some (c.finish r) } := by
    rw [window_modContext, h]
    rfl
  have hrewinding : ((modContext w (fun _ => c.finish r) s).window w).state = .rewinding := by rw [hwin]; exact hs
  have hcontext : ((modContext w (fun _ => c.finish r) s).window w).rewind = some (c.finish r) := by rw [hwin]
  unfold finishRecord
  simp only
  split
  · exact hfirst
  · rename_i f hf
    split
    · exact hfirst.trans (decisions_completeRewind hrewinding)
    · split
      · exact hfirst.trans (decisions_pauseTakesEffect hrewinding hcontext (by simp [hf]))
      · exact (hfirst.trans (decisions_modContext hcontext rfl (by simp [hf]))).trans (decisions_takeRecord w _)

theorem decisions_setInHand {w : WindowIdx} {s : State} {c : RewindContext} (r : RecordInHand)
    (h : (s.window w).rewind = some c) : Decisions s (setInHand w r s) := decisions_modContext h rfl rfl

theorem changes_walkAnswered {w : WindowIdx} {s : State} {c : RewindContext} (op : RewindOp) (status : MemStatus)
    (data : LineData) (r : RecordInHand) (hs : (s.window w).state = .rewinding) (h : (s.window w).rewind = some c) :
    Changes s (walkAnswered w op status data c r s) := by
  cases status with
  | error => cases op <;> exact changes_reportFailure _ _ _ _ s
  | ok =>
    cases op with
    | headerRead =>
      show Changes s (headerReadOk w c r data s)
      unfold headerReadOk
      split
      · exact changes_reportFailure _ _ _ _ s
      · split
        · exact Decisions.changes (decisions_finishRecord _ _ hs h (by rfl) (by rfl))
        · exact changes_reportFailure _ _ _ _ s
      · exact (decisions_setInHand _ h).changes
    | dataRead =>
      show Changes s (dataReadOk w r data s)
      unfold dataReadOk
      split
      · exact (decisions_setInHand _ h).changes
      · exact changes_reportFailure _ _ _ _ s
    | restoreWrite => exact Decisions.changes (decisions_finishRecord _ r hs h (by rfl) (by rfl))

theorem rewindRequest_not_forwarded (w : WindowIdx) (v : Window) (r : RecordInHand) :
    (rewindRequest w v r).isForwarded = false := by
  unfold rewindRequest
  split <;> rfl

theorem changes_grantRewindSource (s : State) : Changes s (grantRewindSource s) := by
  unfold grantRewindSource
  split
  · exact .refl
  · split
    · exact .refl
    · rename_i w _
      unfold offerRewind
      simp only
      split
      · exact .refl
      · rename_i r hr
        obtain ⟨c, hc, -⟩ := Option.bind_eq_some_iff.mp hr
        exact (decisions_modContext (f := fun c => { c with inHand := some { r with ready := false } }) hc rfl rfl).changes.tail
          (.offered _ w (rewindRequest_not_forwarded w _ r))

theorem changes_rewindAnswered (w : WindowIdx) (op : RewindOp) (status : MemStatus) (data : LineData) (s : State) :
    Changes s (rewindAnswered w op status data s) := by
  unfold rewindAnswered
  refine .trans ?_ (changes_grantRewindSource _)
  split
  · rename_i hs
    split
    · exact .refl
    · rename_i c hc
      split
      · exact .refl
      · exact changes_walkAnswered op status data _ hs hc
  · exact .refl

theorem changes_endDrain {w : WindowIdx} {s : State} (hd : drainMayEnd s w = true) : Changes s (endDrain w s) := by
  simp only [drainMayEnd, Bool.and_eq_true, beq_iff_eq] at hd
  obtain ⟨⟨hs, -⟩, hempty⟩ := hd
  have hzero : s.slotGens w = 0 := by
    simp only [drainEmpty, Bool.and_eq_true] at hempty
    exact (slotGens_eq_zero_iff s w).mpr (by simpa using hempty.1.2)
  unfold endDrain
  simp only
  split
  · exact .refl
  · rename_i c0 hc
    have hset : modContext w (fun _ => { c0.checkTarget (s.window w).gens with
        stop := some (stopFieldsFor (s.window w) (c0.checkTarget (s.window w).gens).target) }) s =
        s.setWindow w { s.window w with rewind := some { c0.checkTarget (s.window w).gens with
          stop := some (stopFieldsFor (s.window w) (c0.checkTarget (s.window w).gens).target) } } := by
      simp only [modContext, State.modWindow, hc, Option.map_some]
    rw [hset]
    have hfirst : Changes s (s.setWindow w { s.window w with rewind := some { c0.checkTarget (s.window w).gens with
          stop := some (stopFieldsFor (s.window w) (c0.checkTarget (s.window w).gens).target) } }) :=
      Changes.decision (.window w _ (.drained c0 _ hs hc hzero))
    refine hfirst.trans ?_
    split
    · exact (decisions_pauseTakesEffect (by rw [window_setWindow_self]; exact hs) (by rw [window_setWindow_self]) rfl).changes
    · split
      · exact (decisions_completeRewind (by rw [window_setWindow_self]; exact hs)).changes
      · refine .trans ?_ (changes_grantRewindSource _)
        exact Decisions.changes ((decisions_modContext (congrArg Window.rewind (window_setWindow_self s w _)) rfl rfl).trans
          (decisions_takeRecord w _))

theorem changes_resumeRewind {w : WindowIdx} {s : State} (hs : (s.window w).state = .paused) :
    Changes s (resumeRewind w s) := by
  have hfirst : Changes s (raiseTrigger (s.modWindow w (fun v =>
      { v with state := .rewinding, rewind := v.rewind.map (fun c => { c with phase := .walk }) }))) :=
    .head (.decision _ (.window w _ (.resume hs))) (Changes.decision .trigger)
  have hrewinding : ((raiseTrigger (s.modWindow w (fun v =>
      { v with state := .rewinding, rewind := v.rewind.map (fun c => { c with phase := .walk }) }))).window w).state =
      .rewinding := congrArg Window.state (window_modWindow_self s w (fun v =>
      { v with state := .rewinding, rewind := v.rewind.map (fun c => { c with phase := .walk }) }))
  unfold resumeRewind
  simp only
  refine hfirst.trans ?_
  split
  · exact .refl
  · rename_i c hc
    split
    · exact (decisions_setInHand _ hc).changes.trans (changes_grantRewindSource _)
    · split
      · exact (decisions_completeRewind hrewinding).changes
      · exact (decisions_takeRecord w _).changes.trans (changes_grantRewindSource _)

/-! ### Answers to a slot's memory operations (R34 to R40) -/

theorem changes_captureReadOk {k : SlotIdx} {sl : Slot} {s : State} (data : LineData) (hk : s.slot k = some sl) :
    Changes s (captureReadOk k sl data s) := by
  unfold captureReadOk
  split
  · exact changes_freeSlotAt k s
  · unfold issueRecord
    simp only
    refine .head (.slot k sl { sl with phase := .recording } hk rfl rfl rfl) ?_
    refine .head (.captureQueued (if Config.headerWriteFirst s.freeCount then
        [{ owner := .capture k .headerWrite, line := (s.window sl.window).headerLine sl.position,
           op := .write (captureHeader sl data) allEnables },
         { owner := .capture k .dataWrite, line := (s.window sl.window).dataLine sl.position, op := .write data allEnables }]
      else
        [{ owner := .capture k .dataWrite, line := (s.window sl.window).dataLine sl.position, op := .write data allEnables },
         { owner := .capture k .headerWrite, line := (s.window sl.window).headerLine sl.position,
           op := .write (captureHeader sl data) allEnables }]) ?_) ?_
    · intro r hr
      split at hr <;> simp only [List.mem_cons, List.not_mem_nil, or_false] at hr <;> rcases hr with rfl | rfl <;> rfl
    · exact .single (.settings _ _ _ _ _ _ (s.freeCount + 1) _)

/-- A slot's trigger refused: the slot carries it as dropped. -/
theorem slot_refuseTrigger {k : SlotIdx} {sl : Slot} {s : State} (hk : s.slot k = some sl) :
    (refuseTrigger k s).slot k = some sl.drop := by
  simp only [refuseTrigger, hk]
  split
  · rename_i hd
    rw [hk, Slot.drop, ← hd]
  · exact slot_setSlot_self s k _

theorem changes_captureReadFailed {k : SlotIdx} {sl : Slot} {s : State} (hk : s.slot k = some sl) :
    Changes s (captureReadFailed k sl s) := by
  have hfirst : Changes s (emit (captureReadErrorEvent sl) (refuseTrigger k s)) :=
    (changes_refuseTrigger k s).tail (.decision _ (.event _))
  unfold captureReadFailed
  simp only
  split
  · exact hfirst.trans (changes_freeSlotAt k _)
  · have hslot : (emit (captureReadErrorEvent sl) (refuseTrigger k s)).slot k = some sl.drop := slot_refuseTrigger hk
    refine hfirst.trans (.head (.slot k sl.drop { sl.drop with phase := .voiding } hslot rfl rfl rfl) (.single ?_))
    exact .captureQueued [_] fun r hr => by rw [List.mem_singleton.mp hr]; rfl

theorem changes_recordComplete {k : SlotIdx} {sl sl0 : Slot} {s : State} (hk : s.slot k = some sl0)
    (hw : sl.window = sl0.window) (hg : sl.generation = sl0.generation) (hl : sl.line = sl0.line) :
    Changes s (recordComplete k sl s) := by
  have hfirst : Changes s (filterInsert sl.window sl.generation sl.line s) := .single (.learned _ _ _)
  unfold recordComplete
  simp only
  split
  · exact hfirst.trans (changes_freeSlotAt k _)
  · have hslot : (filterInsert sl.window sl.generation sl.line s).slot k = some sl0 := by
      rw [filterInsert_rest]
      exact hk
    exact hfirst.trans (.head (.slot k sl0 { sl with phase := .forwarding } hslot hw hg hl)
      (.single (.triggerQueued _ rfl)))

/-- The slot at `k` is busy for a window, in a generation, with a line. -/
def BusyFor (k : SlotIdx) (w : WindowIdx) (g : Nat) (l : Line) (s : State) : Prop :=
  ∃ sl, s.slot k = some sl ∧ sl.window = w ∧ sl.generation = g ∧ sl.line = l

theorem BusyFor.refuseTrigger {k : SlotIdx} {w : WindowIdx} {g : Nat} {l : Line} {s : State} (h : BusyFor k w g l s)
    (j : SlotIdx) : BusyFor k w g l (refuseTrigger j s) := by
  obtain ⟨sl, hk, hids⟩ := h
  by_cases hj : k = j
  · subst hj
    exact ⟨sl.drop, slot_refuseTrigger hk, hids⟩
  · refine ⟨sl, ?_, hids⟩
    unfold Machine.refuseTrigger
    split
    · exact hk
    · split
      · exact hk
      · exact (slot_setSlot_ne s _ hj).trans hk

theorem foldl_keeps {α : Type} {P : State → Prop} {f : State → α → State} (hf : ∀ s a, P s → P (f s a)) (l : List α)
    {s : State} (h : P s) : P (l.foldl f s) := by
  induction l generalizing s with
  | nil => exact h
  | cons a l ih => exact ih (hf s a h)

theorem BusyFor.refuseTriggers {k : SlotIdx} {w : WindowIdx} {g : Nat} {l : Line} {s : State} (h : BusyFor k w g l s)
    (u : WindowIdx) : BusyFor k w g l (refuseTriggers u s) := by
  refine foldl_keeps (P := BusyFor k w g l) (fun t j ht => ?_) (List.finRange 16) h
  split
  · split
    · exact ht.refuseTrigger j
    · exact ht
  · exact ht

theorem BusyFor.reported {k : SlotIdx} {w : WindowIdx} {g : Nat} {l : Line} {s : State} (h : BusyFor k w g l s)
    (b : EventBody) : BusyFor k w g l (raiseTrigger (emit b s)) := h

theorem BusyFor.reportFailure {k : SlotIdx} {w : WindowIdx} {g : Nat} {l : Line} {s : State} (h : BusyFor k w g l s)
    (u : WindowIdx) (cause : FaultCause) (q : Option Seq) (i : Option Line) :
    BusyFor k w g l (reportFailure u cause q i s) := by
  unfold Machine.reportFailure
  simp only
  split
  · have hfaulted : BusyFor k w g l (s.setWindow u { (s.window u).quietStopped with
        state := .faulted, fault := some { cause := cause, sequence := q, line := i } }) := h
    exact (hfaulted.refuseTriggers u).reported _
  · exact h

theorem changes_recordWriteAnswered {k : SlotIdx} {sl : Slot} {s : State} (op : CaptureOp) (status : MemStatus)
    (hk : s.slot k = some sl) : Changes s (recordWriteAnswered k op status sl s) := by
  have hfirst : Changes s (s.setSlot k (some (sl.writeAnswered op status))) :=
    .single (.slot k sl _ hk rfl rfl rfl)
  have hslot : (s.setSlot k (some (sl.writeAnswered op status))).slot k = some (sl.writeAnswered op status) :=
    slot_setSlot_self s k _
  unfold recordWriteAnswered
  simp only
  cases status with
  | ok =>
    simp only
    split
    · split
      · exact hfirst.trans (changes_freeSlotAt k _)
      · exact hfirst.trans (changes_recordComplete hslot rfl rfl rfl)
    · exact hfirst
  | error =>
    have hsecond := (hfirst.trans (changes_refuseTrigger k _)).trans
      (changes_reportFailure sl.window .ringWriteError (some sl.sequence) (some sl.line) _)
    obtain ⟨sl', hk', hw, hg, hl⟩ := BusyFor.reportFailure ⟨_, slot_refuseTrigger hslot, rfl, rfl, rfl⟩ sl.window
      .ringWriteError (some sl.sequence) (some sl.line)
    simp only
    split
    · split
      · exact hsecond.trans (changes_freeSlotAt k _)
      · exact hsecond.trans (changes_recordComplete hk' hw.symm hg.symm hl.symm)
    · exact hsecond

theorem changes_captureAnswered (k : SlotIdx) (op : CaptureOp) (status : MemStatus) (data : LineData) (s : State) :
    Changes s (captureAnswered k op status data s) := by
  unfold captureAnswered
  split
  · exact .refl
  · rename_i sl hk
    cases op with
    | captureRead =>
      cases status with
      | ok => exact changes_captureReadOk data hk
      | error => exact changes_captureReadFailed hk
    | headerWrite => exact changes_recordWriteAnswered _ status hk
    | dataWrite => exact changes_recordWriteAnswered _ status hk
    | voidWrite =>
      cases status with
      | ok => exact changes_freeSlotAt k s
      | error => exact (changes_reportFailure _ _ _ _ s).trans (changes_freeSlotAt k _)

theorem changes_triggerAnswered (k : SlotIdx) (status : MemStatus) (s : State) : Changes s (triggerAnswered k status s) := by
  unfold triggerAnswered
  split
  · exact .refl
  · exact .head (.decision _ (.answer _ _ _ _)) (changes_freeSlotAt k _)

theorem changes_handToOwner (r : MemRequest) (status : MemStatus) (data : LineData) (s : State) :
    Changes s (handToOwner r status data s) := by
  unfold handToOwner
  split
  · exact Changes.decision (.answer _ _ _ _)
  · exact changes_triggerAnswered _ status s
  · exact changes_captureAnswered _ _ status data s
  · exact changes_rewindAnswered _ _ status data s

end Sys2Proof.Machine
end

section
/-! The admission unit as runs of changes: every decision of a request is a run of a decision's changes (R115), and arrivals, passes
and re-examinations are runs of changes built from decisions (R118, R120, R194). -/

namespace Sys2Proof.Machine

open Sys2Proof

/-! ### The placement of a capture (R30, R55 to R58) -/

theorem Window.released_state (v : Window) : v.released.state = v.state := by
  unfold Window.released
  split <;> rfl

theorem decisions_reclaimLoop {w : WindowIdx} (n : Nat) {s : State} (ha : (s.window w).state = .armed) :
    Decisions s (reclaimLoop w n s) ∧ ((reclaimLoop w n s).window w).state = .armed := by
  induction n generalizing s with
  | zero => exact ⟨.refl, ha⟩
  | succ n ih =>
    unfold reclaimLoop
    split
    · rename_i hc
      obtain ⟨m, rest, hg, hm⟩ := (s.window w).oldestClosed_iff.mp hc.2
      have hfirst : Decisions s (releaseOldest w .reclaim s) :=
        (writes_releaseOldest w .reclaim s).decisions (.release m rest ha hg (.inl hm))
      have harmed : ((releaseOldest w .reclaim s).window w).state = .armed := by
        rw [window_releaseOldest, Window.released_state, ha]
      exact ⟨hfirst.trans (ih harmed).1, (ih harmed).2⟩
    · exact ⟨.refl, ha⟩

theorem decisions_makeRoom {w : WindowIdx} {s : State} (ha : (s.window w).state = .armed) :
    Decisions s (makeRoom w s) ∧ ((makeRoom w s).window w).state = .armed := by
  unfold makeRoom
  split
  · exact decisions_reclaimLoop _ ha
  · exact ⟨.refl, ha⟩

theorem writes_turnedAway (w : WindowIdx) (q : Requester) (l : Line) (s : State) :
    Writes w { s.window w with ring := { (s.window w).ring with full := true } } s (turnedAway w q l s) := by
  unfold turnedAway
  simp only
  split
  · rename_i hf
    have hsame : { s.window w with ring := { (s.window w).ring with full := true } } = s.window w := by rw [← hf]
    rw [hsame]
    exact writes_self w s
  · exact (writes_setWindow w _ s).event _

theorem decisions_ringFullOutcome {w : WindowIdx} {s : State} (r : SysRequest) (ha : (s.window w).state = .armed) :
    Decisions s (ringFullOutcome w r s).2 := by
  have haway : Decisions s (turnedAway w r.requester r.line s) := (writes_turnedAway w _ _ s).decisions (.ringFull ha)
  unfold ringFullOutcome
  simp only
  split
  · exact haway
  · exact haway.tail (.answer _ _ _ _)
  · exact haway.tail (.answer _ _ _ _)

/-- The slot, the window's record and the capture read of a capture just placed (R30, R31, R51, R131). -/
def withCapture (k : SlotIdx) (w : WindowIdx) (r : SysRequest) (s : State) : State :=
  { (s.setWindow w (s.window w).captured).setSlot k (some (slotFor w (s.window w) r)) with
    captureQ := s.captureQ ++ [{ owner := .capture k .captureRead, line := r.line, op := .read }] }

/-- RING_HIGH (R52, R125). -/
def ringHighEvent (w : WindowIdx) (v : Window) : EventBody :=
  { kind := .ringHigh, window := some w, generation := some v.openNumber, occupancy := some (v.ring.occupancy + 1) }

/-- A capture is placed: RING_HIGH when it is due, and the write is reported to the quiet timer. -/
theorem placeCapture_eq (k : SlotIdx) (w : WindowIdx) (c : ReqClass) (r : SysRequest) (s : State) :
    placeCapture k w c r s = reportPlacement w c
      (if (s.window w).highDue then emit (ringHighEvent w (s.window w)) (withCapture k w r s) else withCapture k w r s) := by
  have hplain : (((s.setWindow w { s.window w with
      ring := (s.window w).ring.reserved (s.window w).capacity (s.window w).highThreshold
      gens := mapOpen (GenEntry.addRecord (s.window w).ring.nextSeq) (s.window w).gens }).setSlot k
        (some (slotFor w (s.window w) r))).modWindow w (fun v => { v with gens := mapOpen GenEntry.addSlot v.gens })) =
      (s.setWindow w (s.window w).captured).setSlot k (some (slotFor w (s.window w) r)) := by
    simp [State.modWindow, State.setWindow, State.setSlot, State.window, Vector.set_set, Window.captured]
  unfold placeCapture reserve
  simp only
  split
  · refine congrArg (reportPlacement w c) ?_
    have hemit : ∀ (b : EventBody) (t : State) (o : Option Slot) (f : Window → Window),
        (((emit b t).setSlot k o).modWindow w f) = emit b ((t.setSlot k o).modWindow w f) := fun b t o f => by
      unfold emit
      split <;> simp [State.modWindow, State.setWindow, State.setSlot, State.window, *]
    rw [hemit, hplain]
    rfl
  · rw [hplain]
    rfl

theorem decisions_placeCapture {k : SlotIdx} {w : WindowIdx} {r : SysRequest} {s : State} (c : ReqClass)
    (hk : s.slot k = none) (hl : lineHeld s r.line = false) (ha : (s.window w).state = .armed)
    (hr : (s.window w).ring.occupancy < (s.window w).capacity) : Decisions s (placeCapture k w c r s) := by
  have hplaced : Decisions s (withCapture k w r s) := .single (.capture k w r hk hl ha hr)
  have harmed : ((withCapture k w r s).window w).state = .armed := by
    have : (withCapture k w r s).window w = (s.window w).captured := window_setWindow_self s w _
    rw [this]
    exact ha
  rw [placeCapture_eq]
  split
  · exact (hplaced.tail (.event _)).trans (decisions_reportPlacement c harmed)
  · exact hplaced.trans (decisions_reportPlacement c harmed)

/-- What stays in one window leaves the lines held as they were. -/
theorem StaysIn.lineHeld {w : WindowIdx} {s t : State} (h : StaysIn w s t) (l : Line) : lineHeld t l = lineHeld s l := by
  rw [h.rest]
  rfl

theorem StaysIn.slot {w : WindowIdx} {s t : State} (h : StaysIn w s t) (k : SlotIdx) : t.slot k = s.slot k := by
  rw [h.rest]
  rfl

theorem slot_of_freeSlot {s : State} {k : SlotIdx} (h : s.freeSlot = some k) : s.slot k = none := by
  simpa using List.find?_some h

theorem decisions_captureSetUp {w : WindowIdx} {s : State} {r : SysRequest} (c : ReqClass)
    (ha : (s.window w).state = .armed) (hl : lineHeld s r.line = false) : Decisions s (captureSetUp w c r s).2 := by
  have hroom := staysIn_makeRoom w s
  obtain ⟨hfirst, harmed⟩ := decisions_makeRoom ha
  unfold captureSetUp
  split
  · exact .refl
  · rename_i k hk
    simp only
    split
    · exact hfirst.trans (decisions_ringFullOutcome r harmed)
    · rename_i hfull
      refine hfirst.trans (decisions_placeCapture c ((hroom.slot k).trans (slot_of_freeSlot hk))
        ((hroom.lineHeld _).trans hl) harmed ?_)
      simpa [Window.ringIsFull] using hfull

/-! ### The decision of a request (R108 to R120) -/

theorem decisions_answerFault (r : SysRequest) (s : State) : Decisions s (answerFault r s) := .single (.answer _ _ _ _)

theorem decisions_placeArmed {w : WindowIdx} {s : State} {r : SysRequest} (c : ReqClass)
    (ha : (s.window w).state = .armed) (hl : lineHeld s r.line = false) : Decisions s (placeArmed w c r s).2 := by
  have hforward : Decisions s (forward r s) := .single (.forward r hl)
  have harmed : ((forward r s).window w).state = .armed := ha
  unfold placeArmed
  split
  · split
    · exact hforward.trans (decisions_reportPlacement c harmed)
    · exact decisions_captureSetUp c ha hl
  · exact hforward

theorem decisions_placeOpen {older : List ParkEntry} {armed : Option (WindowIdx × ReqClass)} {s : State} (r : SysRequest)
    (ha : ∀ p ∈ armed, (s.window p.1).state = .armed) : Decisions s (placeOpen older armed r s).2 := by
  unfold placeOpen
  split
  · exact .refl
  · rename_i hbusy
    have hl : lineHeld s r.line = false := by
      simp only [lineBusy, Bool.or_eq_true, not_or, Bool.not_eq_true] at hbusy
      exact hbusy.1
    split
    · exact .single (.forward r hl)
    · exact decisions_placeArmed _ (ha _ (by rfl)) hl

theorem decisions_fenced (w : WindowIdx) (r : SysRequest) (s : State) : Decisions s (fenced w r s).2 := by
  unfold fenced
  split
  · exact .refl
  · exact decisions_answerFault r s

theorem decisions_placementDecision (older : List ParkEntry) (place : Option (WindowIdx × ReqClass)) (r : SysRequest)
    (s : State) : Decisions s (placementDecision older place r s).2 := by
  have hopen : Decisions s (placeOpen older none r s).2 := decisions_placeOpen r (fun p hp => nomatch hp)
  unfold placementDecision
  split
  · exact hopen
  · split
    case h_7 ha => exact decisions_placeOpen r (fun p hp => by rw [← Option.some.inj hp]; exact ha)
    · exact decisions_answerFault r s
    · exact decisions_fenced _ r s
    · exact decisions_fenced _ r s
    all_goals exact hopen

theorem decisions_decideFresh (older : List ParkEntry) (r : SysRequest) (s : State) :
    Decisions s (decideFresh older r s).2.2 := by
  unfold decideFresh
  split
  · exact (decisions_answerFault r s).tail (.event _)
  · exact (decisions_answerFault r s).tail (.event _)
  · exact decisions_placementDecision _ _ r s
  · exact decisions_placementDecision _ _ r s

theorem decisions_decideParked (older : List ParkEntry) (e : ParkEntry) (s : State) :
    Decisions s (decideParked older e s).2.2 := by
  unfold decideParked
  split
  · exact decisions_decideFresh older e.request s
  · exact decisions_placementDecision older _ e.request s

/-- Decisions leave the admission unit's counts, its waiting arrival, its park list and its pass as they were. -/
theorem Decisions.admission {s t : State} (h : Decisions s t) :
    t.admitted.length + t.responses.length = s.admitted.length + s.responses.length ∧ t.waiting = s.waiting ∧
      t.park = s.park ∧ t.pass = s.pass := by
  induction h with
  | refl => exact ⟨rfl, rfl, rfl, rfl⟩
  | tail _ hd ih =>
    obtain ⟨hsum, hwaiting, hpark, hpass⟩ := hd.admission
    obtain ⟨isum, iwaiting, ipark, ipass⟩ := ih
    exact ⟨hsum.trans isum, hwaiting.trans iwaiting, hpark.trans ipark, hpass.trans ipass⟩

/-! ### Arrivals and passes -/

/-- An arrival that finds room is a run of changes. -/
theorem changes_arrive (r : SysRequest) {s : State} (h : hasRoom s) : Changes s (arrive r { s with waiting := none }) := by
  unfold arrive
  split
  · exact .head (.responded _ h) (Changes.decision (.event _))
  · rename_i hreuse
    split
    · exact .single (.responded _ h)
    · have hnew : (r.requester, r.tag) ∉ s.admitted := by simpa using hreuse
      have hadmitted : Changes s (takeIn r { s with waiting := none }) := .single (.admitted r hnew h)
      have hd := decisions_decideFresh ({ s with waiting := none } : State).park r (takeIn r { s with waiting := none })
      split
      · rename_i hv
        rw [hv] at hd
        exact hadmitted.trans hd.changes
      · rename_i s1 hv
        rw [hv] at hd
        split
        · rename_i hpark
          have hsame : s1.park = s.park := hd.admission.2.2.1
          exact (hadmitted.trans hd.changes).tail (.parked _ (by rw [hsame]; exact hpark))
        · exact .single (.waits r h)

theorem changes_decideWaiting (s : State) : Changes s (decideWaiting s) := by
  unfold decideWaiting
  split
  · exact .refl
  · rename_i r hr
    exact changes_arrive r (.inl (by rw [hr]; rfl))

theorem changes_decideEntry {n : Nat} {e : ParkEntry} {s : State} (hp : s.pass = some n) (hn : n < s.park.length) :
    Changes s (decideEntry n e s) := by
  have hd := decisions_decideParked (s.park.take n) e s
  unfold decideEntry
  split
  · rename_i s1 hv
    rw [hv] at hd
    obtain ⟨-, -, hpark, hpass⟩ := hd.admission
    rw [← hpark]
    exact hd.changes.tail (.entryLeaves n (hpass.trans hp) (hpark ▸ hn))
  · rename_i s1 hv
    rw [hv] at hd
    obtain ⟨-, -, hpark, -⟩ := hd.admission
    rw [← hpark]
    exact hd.changes.tail (.entryStays n _ (hpark ▸ hn))

theorem changes_beginPass (s : State) : Changes s (beginPass s) := by
  unfold beginPass
  split
  · exact .refl
  · exact .single .passBegins

theorem beginPass_pass (s : State) : (beginPass s).pass = some ((beginPass s).pass.getD 0) := by
  cases hp : s.pass with
  | none => rw [beginPass_of_none hp]; rfl
  | some n => rw [beginPass_of_some hp, hp]; rfl

theorem changes_passStep (s : State) : Changes s (passStep s) := by
  unfold passStep
  simp only
  split
  · rename_i e he
    exact (changes_beginPass s).trans
      (changes_decideEntry (beginPass_pass s) (List.getElem?_eq_some_iff.mp he).1)
  · exact ((changes_beginPass s).tail .passEnds).trans (changes_decideWaiting _)

theorem changes_passSteps (n : Nat) (s : State) : Changes s (passSteps n s) := by
  induction n generalizing s with
  | zero => exact .refl
  | succ n ih => exact (changes_passStep s).trans (ih _)

theorem changes_settleWithin (n : Nat) (s : State) : Changes s (settleWithin n s) := by
  induction n generalizing s with
  | zero => exact .refl
  | succ n ih =>
    unfold settleWithin
    split
    · exact (changes_passSteps _ s).trans (ih _)
    · exact .refl

theorem changes_settle (s : State) : Changes s (settle s) := changes_settleWithin _ s

/-! ### The port stays open through a re-examination -/

/-- No arrival waits, and so many requests and responses are held. -/
def PortHolds (n : Nat) (s : State) : Prop := s.waiting = none ∧ s.admitted.length + s.responses.length = n

theorem portHolds_passStep {n : Nat} {s : State} (h : PortHolds n s) : PortHolds n (passStep s) := by
  have hbegun : PortHolds n (beginPass s) := by
    unfold beginPass
    split <;> exact h
  unfold passStep
  simp only
  split
  · rename_i e he
    have hd := (decisions_decideParked ((beginPass s).park.take ((beginPass s).pass.getD 0)) e (beginPass s)).admission
    unfold decideEntry
    split
    all_goals
      rename_i hv
      rw [hv] at hd
      exact ⟨hd.2.1.trans hbegun.1, hd.1.trans hbegun.2⟩
  · have hnone : decideWaiting { beginPass s with pass := none } = { beginPass s with pass := none } := by
      simp only [decideWaiting, hbegun.1]
    rw [hnone]
    exact hbegun

theorem portHolds_passSteps {n : Nat} (m : Nat) {s : State} (h : PortHolds n s) : PortHolds n (passSteps m s) := by
  induction m generalizing s with
  | zero => exact h
  | succ m ih => exact ih (portHolds_passStep h)

theorem portHolds_settleWithin {n : Nat} (m : Nat) {s : State} (h : PortHolds n s) : PortHolds n (settleWithin m s) := by
  induction m generalizing s with
  | zero => exact h
  | succ m ih =>
    unfold settleWithin
    split
    · exact ih (portHolds_passSteps _ h)
    · exact h

theorem portHolds_settle {n : Nat} {s : State} (h : PortHolds n s) : PortHolds n (settle s) := portHolds_settleWithin _ h

end Sys2Proof.Machine
end

section
/-! Every command, and what the part does by itself, as a run of changes; the laws of the whole part follow. -/

namespace Sys2Proof.Machine

open Sys2Proof

/-! ### The memory port (R133 to R140) -/

theorem changes_grant (s : State) : Changes s (grant s) := by
  unfold grant
  split
  · exact .refl
  · rename_i hp
    split
    · rename_i t src ht _
      split
      · exact .refl
      · rename_i r hr
        exact .single (.granted t src r (by simpa using List.find?_some ht) (by simpa using hp) hr)
    · exact .refl

theorem changes_issue (s : State) : Changes s (issue s) := by
  unfold issue
  split
  · exact .refl
  · split
    · exact .refl
    · rename_i e he
      exact .single (.entry _ e _ he rfl (by simp))

theorem changes_reportHoldEnd (l : Line) (s : State) : Changes s (reportHoldEnd l s) := by
  unfold reportHoldEnd
  split
  · exact .refl
  · exact Changes.decision .trigger

theorem changes_reportArrival (r : MemRequest) (s : State) : Changes s (reportArrival r s) := by
  unfold reportArrival
  split
  · exact changes_reportHoldEnd _ s
  · exact .refl

theorem changes_freeOrphanedSlot (r : MemRequest) (s : State) : Changes s (freeOrphanedSlot r s) := by
  unfold freeOrphanedSlot
  split
  · exact .refl
  · split
    · exact changes_freeSlotAt _ s
    · exact .refl
  · exact .refl
  · exact .refl

theorem changes_onTime (e : OutEntry) (status : MemStatus) (data : LineData) (s : State) :
    Changes s (onTime e status data s) := by
  unfold onTime
  simp only
  refine .trans ?_ (changes_reportArrival _ _)
  split
  · exact changes_freeOrphanedSlot _ s
  · exact changes_handToOwner _ status data s

theorem changes_late (e : OutEntry) (s : State) : Changes s (late e s) := by
  unfold late
  refine .trans ?_ (changes_reportArrival _ _)
  split
  · exact changes_freeOrphanedSlot _ s
  · exact .refl

theorem changes_takeResponse (t : Ticket) (status : MemStatus) (data : LineData) (s : State) :
    Changes s (takeResponse t status data s) := by
  unfold takeResponse
  split
  · exact .refl
  · split
    · exact .refl
    · exact .head (.entryFreed t) (changes_onTime _ status data _)
    · exact .head (.entryFreed t) (changes_late _ _)

theorem changes_takeTimeout (t : Ticket) (s : State) : Changes s (takeTimeout t s) := by
  unfold takeTimeout
  split
  · exact .refl
  · rename_i e he
    split
    · have hlate : Changes s (emit (timeoutEvent s e.request) (s.setEntry t (some { e with state := .late }))) :=
        .head (.entry t e { e with state := .late } he rfl (by simp)) (Changes.decision (.event _))
      simp only
      split
      · exact hlate
      · exact hlate.trans (changes_handToOwner _ _ _ _)
    · exact .refl

/-! ### The resets (R43, R123, R124) -/

theorem changes_discardForwarded (r : MemRequest) (s : State) : Changes s (discardForwarded r s) := by
  unfold discardForwarded
  split
  · exact .refl
  · exact changes_freeSlotAt _ s
  · exact .refl
  · exact .refl

theorem changes_assertSrst (s : State) : Changes s (assertSrst s) :=
  .head .portReset (changes_foldl (fun s r => changes_discardForwarded r s) _ _)

/-! ### The management commands (R149 to R166) -/

theorem changes_defineEffect {w : WindowIdx} {s : State} (base size : BitVec 40)
    (h : (s.window w).state = .unused ∨ (s.window w).state = .defined) : Changes s (defineEffect w base size s) :=
  .head (.decision _ (.window w _ (.define base size h)))
    (.head (.forgotten w) (.head (.unplaced w) (Changes.decision .trigger)))

theorem changes_decideDefine (base size : BitVec 40) (w : WindowIdx) (s : State) :
    Changes s (decideDefine base size w s).2 := by
  unfold decideDefine
  split
  · exact .refl
  · rename_i hs
    split
    · exact .refl
    · split
      · exact .refl
      · exact changes_defineEffect base size (by simpa [or_iff_not_imp_left] using hs)

theorem configureValues_move {v v' : Window} {g : Multiset Nat} {fence policy depth tick autoClose : Byte}
    {reload : BitVec 16} (hs : v.state = .defined)
    (h : configureValues v fence policy depth reload tick autoClose = some v') : WindowMove v g v' g := by
  unfold configureValues at h
  split at h
  · rename_i f p d t a _ _ hd _ _
    have hpos : 1 ≤ d := by
      unfold depthOfByte at hd
      split at hd <;> simp_all
    rw [← Option.some.inj h]
    exact .configure f p d _ t a hs hpos
  · exact nomatch h

theorem changes_decideConfigure (fence policy depth : Byte) (reload : BitVec 16) (tick autoClose : Byte) (w : WindowIdx)
    (s : State) : Changes s (decideConfigure fence policy depth reload tick autoClose w s).2 := by
  unfold decideConfigure
  split
  · exact .refl
  · rename_i hs
    split
    · exact .refl
    · rename_i v hv
      exact Changes.decision (.window w v (configureValues_move (by simpa using hs) hv))

theorem changes_decideBindRing (base : BitVec 40) (blocks : BitVec 24) (high : BitVec 32) (w : WindowIdx) (s : State) :
    Changes s (decideBindRing base blocks high w s).2 := by
  unfold decideBindRing
  simp only
  split
  · exact .refl
  · rename_i hs
    split
    · exact .refl
    · split
      · exact .refl
      · split
        · exact .refl
        · exact Changes.decision (.window w _ (.bind _ (by simpa using hs)))

theorem changes_decideSetClass (requester cls : Byte) (w : WindowIdx) (s : State) :
    Changes s (decideSetClass requester cls w s).2 := by
  unfold decideSetClass
  split
  · exact .refl
  · split
    · exact Changes.decision (.window w _ (.setClass _))
    · exact .refl

theorem changes_decideDelete (w : WindowIdx) (s : State) : Changes s (decideDelete w s).2 := by
  unfold decideDelete
  split
  · exact .refl
  · rename_i hs
    exact .head (.decision _ (.window w _ (.delete (by simpa using hs))))
      (.head (.forgotten w) (.head (.unplaced w) (Changes.decision .trigger)))

theorem changes_decideArm (w : WindowIdx) (s : State) : Changes s (decideArm w s).2 := by
  unfold decideArm
  simp only
  split
  · exact .refl
  · rename_i hs
    split
    · exact .refl
    · have hdefined : (s.window w).state = .defined := by
        by_contra hc
        exact hs (.inl hc)
      exact .head (.decision _ (.window w _ (.arm hdefined))) (Changes.decision .trigger)

theorem changes_decideClose (w : WindowIdx) (s : State) : Changes s (decideClose w s).2 := by
  unfold decideClose
  simp only
  split
  · exact .refl
  · rename_i hs
    split
    · exact .refl
    · rename_i hc
      split
      · exact .refl
      · exact (decisions_closeGeneration .command (by simpa using hs) (by simpa using hc)).changes

theorem changes_decideRelease (w : WindowIdx) (s : State) : Changes s (decideRelease w s).2 := by
  unfold decideRelease
  simp only
  split
  · exact .refl
  · rename_i hs
    split
    · exact .refl
    · exact .refl
    · rename_i m a rest hg
      split
      · exact .refl
      · rename_i hm
        exact ((writes_releaseOldest w .command s).decisions
          (.release m (a :: rest) (by simpa using hs) hg (.inr ⟨hm, by simp⟩))).changes

theorem changes_rewindEffect {w : WindowIdx} {s : State} (g : Nat) (h : (s.window w).state = .armed) :
    Changes s (rewindEffect w g s) := by
  have hfirst : Changes s (raiseTrigger (s.modWindow w (fun v =>
      { v.quietStopped with state := .rewinding, rewind := some (RewindContext.accepted g) }))) :=
    .head (.decision _ (.window w _ (.rewind g h))) (Changes.decision .trigger)
  unfold rewindEffect
  simp only
  split
  · rename_i hd
    exact hfirst.trans (changes_endDrain hd)
  · exact hfirst

theorem changes_decideRewind (target : BitVec 32) (w : WindowIdx) (s : State) : Changes s (decideRewind target w s).2 := by
  unfold decideRewind
  simp only
  split
  · exact .refl
  · rename_i hs
    split
    · exact .refl
    · split
      · exact .refl
      · exact changes_rewindEffect _ (by simpa using hs)

theorem decisions_requestPause (w : WindowIdx) (s : State) :
    Decisions s (modContext w (fun c => { c with pauseRequested := true }) s) := by
  cases h : (s.window w).rewind with
  | none =>
    rw [modContext_of_none h]
  | some c => exact decisions_modContext h rfl rfl

theorem changes_decidePause (w : WindowIdx) (s : State) : Changes s (decidePause w s).2 := by
  unfold decidePause
  simp only
  split
  · exact .refl
  · split
    · exact .refl
    · exact (decisions_requestPause w s).changes

theorem changes_decideResume (w : WindowIdx) (s : State) : Changes s (decideResume w s).2 := by
  unfold decideResume
  simp only
  split
  · exact .refl
  · rename_i hs
    exact changes_resumeRewind (by simpa using hs)

theorem Window.disarmed_quietStopped (v : Window) : v.quietStopped.disarmed = v.disarmed := rfl

/-- DISARM of a window with a history: DISARMED with no slot left, else DISARMING (R162). -/
theorem changes_disarm {w : WindowIdx} {s : State} (h : (s.window w).hasHistory) :
    Changes s (if (s.slotsOf w).length = 0 then disarmCompletion w (s.setWindow w (s.window w).quietStopped)
      else raiseTrigger ((s.setWindow w (s.window w).quietStopped).modWindow w (fun u => { u with state := .disarming }))) := by
  have hquiet : Writes w (s.window w).quietStopped s (s.setWindow w (s.window w).quietStopped) := writes_setWindow w _ s
  split
  · rename_i hn
    have hzero : s.slotGens w = 0 := (slotGens_eq_zero_iff s w).mpr (by simpa using hn)
    have hdone := hquiet.trans (writes_disarmCompletion w _)
    rw [hquiet.window, Window.disarmed_quietStopped] at hdone
    exact (hdone.decisions (.disarmed h hzero)).changes
  · exact ((hquiet.modWindow (fun u => { u with state := .disarming })).trigger.decisions (.disarming h)).changes

theorem changes_decideDisarm (w : WindowIdx) (s : State) : Changes s (decideDisarm w s).2 := by
  have hrun : (s.window w).hasHistory → Changes s (if (s.slotsOf w).length = 0 then
      ({ status := .done, data := [flagByte (s.window w).rewind.isSome] ++ opt4 ((s.window w).rewind.map (·.restored)) ++ [0] },
        disarmCompletion w (s.setWindow w (s.window w).quietStopped))
      else ({ status := .accepted, data := [0, 0, 0, 0, 0, BitVec.ofNat 8 (s.slotsOf w).length] },
        raiseTrigger ((s.setWindow w (s.window w).quietStopped).modWindow w (fun u => { u with state := .disarming }))) :
      Reply × State).2 := fun h => by
    rw [apply_ite Prod.snd]
    exact changes_disarm h
  unfold decideDisarm
  simp only
  split
  · exact .refl
  · exact .refl
  · exact .refl
  · exact .refl
  · rename_i hs
    exact hrun (hasHistory_of_armed hs)
  · rename_i hs
    exact hrun (hasHistory_of_paused hs)
  · rename_i hs
    exact hrun (hasHistory_of_faulted hs)

theorem changes_decideReadEvent (s : State) : Changes s (decideReadEvent s).2 := by
  have hread : Changes s { s with events := s.events.tail, lost := false } := .single .eventRead
  unfold decideReadEvent
  split
  · rename_i h
    rw [h, List.tail_nil, ← h] at hread
    exact hread
  · rename_i e rest h
    rw [h] at hread
    exact hread

theorem changes_decideSetPort (timeout : BitVec 16) (attention : Byte) (s : State) :
    Changes s (decideSetPort timeout attention s).2 := by
  unfold decideSetPort
  split
  · exact .refl
  · split
    · exact .refl
    · exact .single (.settings _ _ _ _ _ _ _ _)

theorem changes_decideQuery (page : Byte) (w : WindowIdx) (s : State) : Changes s (decideQuery page w s).2 := by
  unfold decideQuery
  split <;> exact .refl

theorem changes_onWindow {f : WindowIdx → State → Reply × State} (hf : ∀ w s, Changes s (f w s).2) (b : Byte) (s : State) :
    Changes s (onWindow b f s).2 := by
  unfold onWindow
  split
  · exact .refl
  · exact hf _ s

theorem changes_unlessPor {f : State → State} {s : State} (h : Changes s (f s)) : Changes s (unlessPor f s) := by
  unfold unlessPor
  split
  · exact .refl
  · exact h

theorem changes_takeCommand {d : State → Reply × State} {s : State} (echo : Byte) (hd : Changes s (d s).2) :
    Changes s (takeCommand echo d s) :=
  changes_unlessPor (hd.tail (.replied _ _ ⟨responseFrame_length _ _ _ _, responseFrame_check _ _ _ _⟩))

theorem changes_onWindowCommand {f : WindowIdx → State → Reply × State} (echo b : Byte) (hf : ∀ w s, Changes s (f w s).2)
    (s : State) : Changes s (takeCommand echo (onWindow b f) s) := changes_takeCommand echo (changes_onWindow hf b s)

theorem changes_frameErrorEffect (bits : List Bool) (s : State) : Changes s (frameErrorEffect bits s) := by
  unfold frameErrorEffect
  split
  · exact .refl
  · exact .single (.replied _ s.cmdNumber ⟨responseFrame_length _ _ _ _, responseFrame_check _ _ _ _⟩)

/-! ### The commands, and what the part does by itself -/

theorem changes_systemRequest (r : SysRequest) (s : State) :
    Changes s (if canTake s then arrive r (settle s) else s) := by
  split
  · rename_i hc
    simp only [canTake, Bool.and_eq_true, decide_eq_true_eq, Option.isNone_iff_eq_none] at hc
    obtain ⟨⟨-, hwaiting⟩, hroom⟩ := hc
    obtain ⟨hnone, hsum⟩ := portHolds_settle (s := s) ⟨hwaiting, rfl⟩
    have hsame : settle s = { settle s with waiting := none } := by rw [← hnone]
    have harrive := changes_arrive r (s := settle s) (.inr (hsum ▸ hroom))
    rw [← hsame] at harrive
    exact (changes_settle s).trans harrive
  · exact .refl

theorem changes_exec (i : Instr) (s : State) : ∃ t, exec i s = .next t ∧ Changes s t := by
  cases i with
  | status => exact ⟨_, rfl, changes_takeCommand _ .refl⟩
  | define window base size => exact ⟨_, rfl, changes_onWindowCommand _ _ (changes_decideDefine base size) s⟩
  | configure window fence policy depth reload tick autoClose =>
    exact ⟨_, rfl, changes_onWindowCommand _ _ (changes_decideConfigure fence policy depth reload tick autoClose) s⟩
  | bindRing window base blocks high => exact ⟨_, rfl, changes_onWindowCommand _ _ (changes_decideBindRing base blocks high) s⟩
  | setClass window requester cls => exact ⟨_, rfl, changes_onWindowCommand _ _ (changes_decideSetClass requester cls) s⟩
  | delete window => exact ⟨_, rfl, changes_onWindowCommand _ _ changes_decideDelete s⟩
  | arm window => exact ⟨_, rfl, changes_onWindowCommand _ _ changes_decideArm s⟩
  | close window => exact ⟨_, rfl, changes_onWindowCommand _ _ changes_decideClose s⟩
  | release window => exact ⟨_, rfl, changes_onWindowCommand _ _ changes_decideRelease s⟩
  | rewind window target => exact ⟨_, rfl, changes_onWindowCommand _ _ (changes_decideRewind target) s⟩
  | pause window => exact ⟨_, rfl, changes_onWindowCommand _ _ changes_decidePause s⟩
  | resume window => exact ⟨_, rfl, changes_onWindowCommand _ _ changes_decideResume s⟩
  | disarm window => exact ⟨_, rfl, changes_onWindowCommand _ _ changes_decideDisarm s⟩
  | query window page => exact ⟨_, rfl, changes_onWindowCommand _ _ (changes_decideQuery page) s⟩
  | readEvent => exact ⟨_, rfl, changes_takeCommand _ (changes_decideReadEvent s)⟩
  | setPort timeout attention => exact ⟨_, rfl, changes_takeCommand _ (changes_decideSetPort timeout attention s)⟩
  | frameError bits => exact ⟨_, rfl, changes_unlessPor (changes_frameErrorEffect bits s)⟩
  | systemRequest request => exact ⟨_, rfl, changes_systemRequest request s⟩
  | systemResponseDelivery => exact ⟨_, rfl, changes_unlessPor (.single .delivered)⟩
  | arbiterGrant => exact ⟨_, rfl, changes_unlessPor (changes_grant s)⟩
  | memoryRequestIssue => exact ⟨_, rfl, changes_unlessPor (changes_issue s)⟩
  | memoryResponse ticket status data => exact ⟨_, rfl, changes_unlessPor (changes_takeResponse ticket status data s)⟩
  | responseTimeout ticket => exact ⟨_, rfl, changes_unlessPor (changes_takeTimeout ticket s)⟩
  | quietTimerExpiry window =>
    refine ⟨_, rfl, changes_unlessPor ?_⟩
    split
    · rename_i h
      exact (decisions_quietExpiry h.1).changes
    · exact .refl
  | reExamination =>
    refine ⟨_, rfl, changes_unlessPor ?_⟩
    split
    · exact changes_passSteps _ s
    · exact .refl
  | drainEnd window =>
    refine ⟨_, rfl, changes_unlessPor ?_⟩
    split
    · rename_i h
      exact changes_endDrain h
    · exact .refl
  | systemPortReset =>
    refine ⟨_, rfl, ?_⟩
    split
    · exact .single (.settings _ _ _ _ _ _ _ _)
    · exact changes_assertSrst s
  | powerOnReset => exact ⟨_, rfl, .single .powerOn⟩
  | unknownCommand code =>
    refine ⟨_, rfl, ?_⟩
    split
    · exact .refl
    · exact changes_takeCommand _ .refl
  | systemPortResetRelease => exact ⟨_, rfl, .single (.settings _ _ _ _ _ _ _ _)⟩
  | powerOnResetRelease csLow =>
    refine ⟨_, rfl, ?_⟩
    split
    · exact .single (.settings _ _ _ _ _ _ _ _)
    · exact .refl

theorem changes_idle (s : State) : Changes s (idle s) := by
  refine changes_unlessPor ?_
  split
  · exact changes_passStep s
  · exact .head .elapsed (.single (.settings _ _ _ _ _ _ _ _))

/-- Every step of the part is a run of changes. -/
theorem step_changes {s t : State} (h : step s = .next t) : Changes s t := by
  unfold step at h
  split at h
  · rw [← Host.Outcome.next.inj h]
    exact changes_idle s
  · rename_i c rest _
    obtain ⟨u, hu, hchanges⟩ := changes_exec c { s with pending := rest }
    rw [hu] at h
    rw [← Host.Outcome.next.inj h]
    exact .head (.settings _ _ _ _ _ rest _ _) hchanges

/-! ### The laws of the whole part -/

/-- Settles O54, along the run of changes that a step is. -/
theorem everyStepKeepsQueueResponseAndPresentation : Obligations.EveryStepKeepsQueueResponseAndPresentation := by
  unfold Obligations.EveryStepKeepsQueueResponseAndPresentation
  exact ⟨fun s t h => ⟨(step_changes h).keeps fun _ _ hc => hc.eventsBounded, (step_changes h).keeps fun _ _ hc => hc.heldIsFrame⟩,
    fun s t hp h => (step_changes h).keeps (fun _ _ hc => hc.onePresented) hp⟩

/-- Settles O55, along the run of changes that a step is. -/
theorem everyStepKeepsTheAdmissionLaw : Obligations.EveryStepKeepsTheAdmissionLaw := by
  unfold Obligations.EveryStepKeepsTheAdmissionLaw
  exact fun s t hs h => (step_changes h).keeps (fun _ _ hc => hc.admissionBounded) hs

/-- Settles O56, along the run of changes that a step is. -/
theorem everyStepKeepsTheFilter : Obligations.EveryStepKeepsTheFilter := by
  unfold Obligations.EveryStepKeepsTheFilter
  exact fun s t hs h => (step_changes h).keeps (fun _ _ hc => hc.filterOk) hs

/-- Settles O57, by the moves of windows. -/
theorem everyStepKeepsRingsAndTimers : Obligations.EveryStepKeepsRingsAndTimers := by
  unfold Obligations.EveryStepKeepsRingsAndTimers
  exact fun s t h => ⟨(step_changes h).ringBounded, (step_changes h).timerWithArming⟩

/-- Settles O58, by the moves of windows. -/
theorem everyStepKeepsTheHistory : Obligations.EveryStepKeepsTheHistory := by
  unfold Obligations.EveryStepKeepsTheHistory
  exact fun s t hs h => (step_changes h).historyOk hs

/-- Settles O59, by the moves of windows with the generations of their slots. -/
theorem everyStepKeepsTheSlotCounts : Obligations.EveryStepKeepsTheSlotCounts := by
  unfold Obligations.EveryStepKeepsTheSlotCounts
  exact fun s t hh hs h => (step_changes h).slotsCounted hh hs

/-- Settles O60: a request is placed only for a line that no placed request names. -/
theorem everyStepKeepsOneRequestPerLine : Obligations.EveryStepKeepsOneRequestPerLine := by
  unfold Obligations.EveryStepKeepsOneRequestPerLine
  exact fun s t hs h => (step_changes h).keeps (fun _ _ hc => hc.oneRequestPerLine) hs

end Sys2Proof.Machine
end

section
/-! Steps, the idle microsecond, and what the resets leave (R43, R91, R123, R124, R137, R140, R142). -/

namespace Sys2Proof.Machine

open Sys2Proof

/-! ### Steps and the idle microsecond -/

theorem step_of_front {s : State} {c : Instr} {rest : List Instr} (h : s.pending = c :: rest) :
    step s = exec c { s with pending := rest } := by
  simp only [step, h]

theorem step_of_empty {s : State} (h : s.pending = []) : step s = .next (idle s) := by
  simp only [step, h]

/-- Settles O1: no command ends in a fault or a refusal. -/
theorem stepRunsTheFrontCommand : Obligations.StepRunsTheFrontCommand := by
  unfold Obligations.StepRunsTheFrontCommand
  refine ⟨fun c rest s h => step_of_front h, fun c s => ?_⟩
  obtain ⟨t, ht, -⟩ := changes_exec c s
  exact ⟨t, ht⟩

theorem idle_of_not_owed {s : State} (hp : s.por = false) (ho : passOwed s = false) : idle s = tick s := by
  simp [idle, unlessPor, hp, ho]

theorem QuietTimer.microsecond_of_still {t : QuietTimer} (tick : Nat) (h : t.running = false ∨ t.remaining = 0) :
    t.microsecond tick = t := by
  refine if_neg fun hc => ?_
  rcases h with h | h
  · exact absurd hc.1 (by simp [h])
  · omega

theorem QuietTimer.microsecond_within {t : QuietTimer} {tick : Nat} (hr : t.running = true) (h0 : 0 < t.remaining)
    (h : t.elapsed + 1 < tick) : t.microsecond tick = { t with elapsed := t.elapsed + 1 } :=
  (if_pos ⟨hr, h0⟩).trans (if_pos h)

theorem QuietTimer.microsecond_full {t : QuietTimer} {tick : Nat} (hr : t.running = true) (h0 : 0 < t.remaining)
    (h : tick ≤ t.elapsed + 1) : t.microsecond tick = { t with elapsed := 0, remaining := t.remaining - 1 } :=
  (if_pos ⟨hr, h0⟩).trans (if_neg (Nat.not_lt.mpr h))

theorem OutEntry.due_iff (e : OutEntry) : e.due = true ↔ e.state = .waiting ∧ e.timeLeft = 0 := by
  simp [OutEntry.due]

theorem QuietTimer.due_iff (t : QuietTimer) : t.due = true ↔ t.running = true ∧ t.remaining = 0 := by
  simp [QuietTimer.due]

theorem mem_dueTimeouts_iff (s : State) (c : Instr) :
    c ∈ dueTimeouts s ↔ ∃ k e, c = .responseTimeout k ∧ s.entry k = some e ∧ e.state = .waiting ∧ e.timeLeft = 0 := by
  simp only [dueTimeouts, List.mem_map, List.mem_filter, List.mem_finRange, true_and, Option.any_eq_true,
    OutEntry.due_iff]
  constructor
  · rintro ⟨k, ⟨e, he, hd⟩, rfl⟩
    exact ⟨k, e, rfl, he, hd⟩
  · rintro ⟨k, e, rfl, he, hd⟩
    exact ⟨k, ⟨e, he, hd⟩, rfl⟩

theorem mem_dueExpiries_iff (s : State) (c : Instr) :
    c ∈ dueExpiries s ↔
      ∃ w, c = .quietTimerExpiry w ∧ (s.window w).timer.running = true ∧ (s.window w).timer.remaining = 0 := by
  simp only [dueExpiries, List.mem_map, List.mem_filter, List.mem_finRange, true_and, QuietTimer.due_iff]
  constructor
  · rintro ⟨w, hd, rfl⟩
    exact ⟨w, rfl, hd⟩
  · rintro ⟨w, rfl, hd⟩
    exact ⟨w, hd, rfl⟩

/-- On an empty queue the commands that wait after a microsecond are what fell due in it. -/
theorem mem_tick_pending_iff {s : State} (hq : s.pending = []) (c : Instr) :
    c ∈ (tick s).pending ↔ c ∈ dueTimeouts (elapse s) ∨ c ∈ dueExpiries (elapse s) := by
  have hpending : (elapse s).pending = [] := hq
  simp [tick, hpending]

/-- Settles O2, by what one microsecond does to a timer and to a table entry. -/
theorem anIdleStepIsOneMicrosecond : Obligations.AnIdleStepIsOneMicrosecond := by
  unfold Obligations.AnIdleStepIsOneMicrosecond
  intro s hq hp ho
  have hwindow : ∀ w, (tick s).window w = _ := elapse_window s
  have hentry : ∀ k, (tick s).entry k = _ := elapse_entry s
  refine ⟨tick s, (step_of_empty hq).trans (congrArg _ (idle_of_not_owed hp ho)), rfl, fun w => ?_, fun k hk => ?_,
    fun k e hk => ?_, fun c hc => ?_, fun k e hk hw h0 => ?_, fun w hr h0 => ?_⟩
  · exact ⟨_, hwindow w, QuietTimer.microsecond_of_still _, QuietTimer.microsecond_within, QuietTimer.microsecond_full⟩
  · rw [hentry, hk]
    rfl
  · rw [hentry, hk]
    rfl
  · exact ((mem_tick_pending_iff hq c).mp hc).imp (mem_dueTimeouts_iff _ c).mp (mem_dueExpiries_iff _ c).mp
  · exact (mem_tick_pending_iff hq _).mpr (.inl ((mem_dueTimeouts_iff _ _).mpr ⟨k, e, rfl, hk, hw, h0⟩))
  · exact (mem_tick_pending_iff hq _).mpr (.inr ((mem_dueExpiries_iff _ _).mpr ⟨w, rfl, hr, h0⟩))

/-! ### The state after reset -/

theorem window_reset (w : WindowIdx) : State.reset.window w = Window.afterPor := by simp [State.reset, State.window]

theorem slot_reset (k : SlotIdx) : State.reset.slot k = none := by simp [State.reset, State.slot]

theorem entry_reset (t : Ticket) : State.reset.entry t = none := by simp [State.reset, State.entry]

theorem busySlots_reset : State.reset.busySlots = [] := by simp [State.reset, State.busySlots]

theorem occupied_reset : State.reset.occupied = [] := by simp [State.reset, State.occupied]

/-- Settles O3, by evaluation of the state after POR. -/
theorem resetLeavesEveryBlockInItsInitialState : Obligations.ResetLeavesEveryBlockInItsInitialState :=
  ⟨window_reset, rfl, slot_reset, rfl, rfl, rfl, rfl, rfl, rfl, rfl, rfl, entry_reset, rfl, rfl, rfl, rfl, rfl, rfl, rfl, rfl,
    rfl, rfl, rfl, rfl⟩

theorem slotGens_reset (w : WindowIdx) : State.reset.slotGens w = 0 :=
  (slotGens_eq_zero_iff _ w).mpr (by simp [State.slotsOf, busySlots_reset])

theorem historyOk_reset : HistoryOk State.reset := by
  refine (historyOk_iff _).mpr fun w => ?_
  rw [window_reset, slotGens_reset]
  exact historyLaw_of_idle (.inl rfl) (Nat.le_succ 1) rfl

theorem slotsCounted_reset : SlotsCounted State.reset := by
  refine (slotsCounted_iff _).mpr fun w => ?_
  rw [window_reset, slotGens_reset]
  exact countLaw_of_zero fun _ he => nomatch he

theorem oneRequestPerLine_reset : OneRequestPerLine State.reset := by
  refine ⟨?_, fun _ hr => (nomatch hr), fun _ hr => (nomatch hr)⟩
  rw [placedLines, busySlots_reset, occupied_reset]
  exact List.nodup_nil

/-- Settles O53: the state after reset is empty. -/
theorem resetMeetsTheLaws : Obligations.ResetMeetsTheLaws := by
  have hevery : ∀ P : Window → Prop, P Window.afterPor → EveryWindow P State.reset := fun P hP w => window_reset w ▸ hP
  refine ⟨Nat.zero_le _, reset_heldIsFrame, ?_, ?_, ⟨rfl, fun _ hp => nomatch hp⟩, hevery _ ⟨fun _ => rfl, Nat.zero_le _⟩,
    hevery _ (fun hr => nomatch hr), historyOk_reset, slotsCounted_reset, oneRequestPerLine_reset⟩
  · exact ⟨List.nodup_nil, Nat.zero_le _, fun hw => (nomatch hw), Nat.zero_le _, fun _ hn => (nomatch hn)⟩
  · intro t u ht
    rw [entry_reset] at ht
    exact nomatch ht

/-! ### The reset pins -/

/-- Under POR no command but those of the reset pins has an effect (R142, R179, R190). -/
theorem exec_of_por {c : Instr} {s : State} (hp : s.por = true) (h1 : c ≠ .powerOnReset) (h2 : c ≠ .systemPortReset)
    (h3 : c ≠ .systemPortResetRelease) (h4 : ∀ csLow, c ≠ .powerOnResetRelease csLow) : exec c s = .next s := by
  have hcommand : ∀ echo decision, Host.Outcome.next (takeCommand echo decision s) = (.next s : Result) := fun echo decision =>
    congrArg Host.Outcome.next (takeCommand_por hp echo decision)
  have hunless : ∀ f, Host.Outcome.next (unlessPor f s) = (.next s : Result) := fun f =>
    congrArg Host.Outcome.next (if_pos hp)
  cases c with
  | status | define | configure | bindRing | setClass | delete | arm | close | release | rewind | pause | resume | disarm
  | query | readEvent | setPort => exact hcommand _ _
  | frameError | systemResponseDelivery | arbiterGrant | memoryRequestIssue | memoryResponse | responseTimeout
  | quietTimerExpiry | reExamination | drainEnd => exact hunless _
  | unknownCommand code =>
    show Host.Outcome.next (if isCommandCode code then s else takeCommand code decideUnknown s) = (.next s : Result)
    rw [takeCommand_por hp, ite_self]
  | systemRequest r => exact congrArg Host.Outcome.next (if_neg (by simp [canTake, hp]))
  | powerOnReset => exact absurd rfl h1
  | systemPortReset => exact absurd rfl h2
  | systemPortResetRelease => exact absurd rfl h3
  | powerOnResetRelease csLow => exact absurd rfl (h4 csLow)

/-- Settles O4, by the meanings of the pins' commands. -/
theorem resetPinsDoWhatTheRulesGive : Obligations.ResetPinsDoWhatTheRulesGive := by
  refine ⟨⟨fun s => rfl, fun csLow s hp => ?_, fun csLow s hp => ?_, fun s => rfl⟩, fun c s => exec_of_por, fun s hp => ?_⟩
  · exact congrArg Host.Outcome.next (if_pos hp)
  · exact congrArg Host.Outcome.next (if_neg (by simp [hp]))
  · exact congrArg Host.Outcome.next (if_pos hp)

/-! ### The reset of the system port (R43, R123, R140) -/

/-- Reports change the event queue, its serial and lost flag, and the trigger alone. -/
theorem Reports.rest {s t : State} (h : Reports s t) :
    t = { s with events := t.events, serial := t.serial, lost := t.lost, reexamDue := t.reexamDue } := by
  induction h with
  | refl => rfl
  | tail _ hr ih =>
    cases hr with
    | event b =>
      rw [ih]
      rfl
    | trigger =>
      rw [ih]
      rfl

/-- With nothing parked and no arrival waiting no report leaves a trigger (R119). -/
theorem Reports.reexamDue {s t : State} (h : Reports s t) (hp : s.park = []) (hw : s.waiting = none) :
    t.reexamDue = s.reexamDue := by
  induction h with
  | refl => rfl
  | @tail u _ hu hr ih =>
    cases hr with
    | event b => exact ih
    | trigger =>
      have hrest := Reports.rest hu
      have hpark : u.park = [] := (congrArg State.park hrest).trans hp
      have hwaiting : u.waiting = none := (congrArg State.waiting hrest).trans hw
      rw [raiseTrigger_of_none u hpark hwaiting]
      exact ih

/-- The freeing of a slot writes the record of its window. -/
theorem writes_freeSlotAt {k : SlotIdx} {sl : Slot} {s : State} (h : s.slot k = some sl) :
    ∃ v, Writes sl.window v (s.setSlot k none) (freeSlotAt k s) := by
  obtain ⟨-, v, -, -, hw, -⟩ := writes_generationSlotFreed sl.window sl.generation (s.setSlot k none) 0
  simp only [freeSlotAt, h]
  split
  · have hd := hw.trans (writes_disarmCompletion sl.window _)
    exact ⟨_, hd.trigger⟩
  · exact ⟨v, hw.trigger⟩

/-- What the freeing of a slot leaves alone when nothing is parked. -/
theorem freeSlotAt_of_nothing_parked (k : SlotIdx) {s : State} (hp : s.park = []) (hw : s.waiting = none) :
    freeSlotAt k s = { s.setSlot k none with
      windows := (freeSlotAt k s).windows, events := (freeSlotAt k s).events, serial := (freeSlotAt k s).serial
      lost := (freeSlotAt k s).lost } := by
  cases h : s.slot k with
  | none =>
    have hset : s.setSlot k none = s := by
      rw [← h]
      simp [State.setSlot, State.slot]
    rw [freeSlotAt_of_free k s h, hset]
  | some sl =>
    obtain ⟨v, hv⟩ := writes_freeSlotAt h
    have hrest := (freeSlotAt_staysIn k s h).rest
    have hdue := Reports.reexamDue hv hp hw
    rw [hdue] at hrest
    exact hrest

/-- From `s` to `t` the slots of the triggers in a queue are freed; with no trigger nothing has changed. -/
structure FreesTriggers (q : List MemRequest) (s t : State) : Prop where
  rest : t = { s with
    slots := t.slots, windows := t.windows, events := t.events, serial := t.serial, lost := t.lost }
  freed : ∀ k, (∃ r ∈ q, r.owner = .trigger k) → t.slot k = none
  kept : ∀ k, (∀ r ∈ q, r.owner ≠ .trigger k) → t.slot k = s.slot k
  still : (∀ r ∈ q, ∀ k, r.owner ≠ .trigger k) → t = s

theorem FreesTriggers.free (k : SlotIdx) {r : MemRequest} (hr : r.owner = .trigger k) {s : State} (hp : s.park = [])
    (hw : s.waiting = none) : FreesTriggers [r] s (freeSlotAt k s) := by
  have hrest := freeSlotAt_of_nothing_parked k hp hw
  have hslots : ∀ j, (freeSlotAt k s).slot j = (s.setSlot k none).slot j := fun j => by
    have := congrArg State.slots hrest
    simp only [State.slot, this]
  refine ⟨?_, fun j hj => ?_, fun j hj => ?_, fun h => absurd hr (h r List.mem_cons_self k)⟩
  · rw [hrest]
    rfl
  · obtain ⟨_, hr', hj⟩ := hj
    rw [List.mem_singleton.mp hr', hr] at hj
    obtain rfl := Owner.trigger.inj hj
    rw [hslots, slot_setSlot_self]
  · have hne : j ≠ k := fun e => hj r List.mem_cons_self (e ▸ hr)
    rw [hslots, slot_setSlot_ne _ _ hne]

theorem FreesTriggers.skip {r : MemRequest} (hr : ∀ k, r.owner ≠ .trigger k) (s : State) : FreesTriggers [r] s s :=
  ⟨rfl, fun k ⟨_, hr', hk⟩ => absurd (List.mem_singleton.mp hr' ▸ hk) (hr k), fun _ _ => rfl, fun _ => rfl⟩

theorem freesTriggers_discardForwarded (r : MemRequest) {s : State} (hp : s.park = []) (hw : s.waiting = none) :
    FreesTriggers [r] s (discardForwarded r s) := by
  unfold discardForwarded
  split
  · exact .skip (fun k hk => by simp_all) s
  · exact .free _ (by assumption) hp hw
  · exact .skip (fun k hk => by simp_all) s
  · exact .skip (fun k hk => by simp_all) s

theorem FreesTriggers.cons {r : MemRequest} {q : List MemRequest} {s t u : State} (h : FreesTriggers [r] s t)
    (k : FreesTriggers q t u) : FreesTriggers (r :: q) s u := by
  refine ⟨?_, fun j hj => ?_, fun j hj => ?_, fun hall => ?_⟩
  · rw [k.rest, h.rest]
  · obtain ⟨r', hr', hj⟩ := hj
    by_cases hin : ∃ r ∈ q, r.owner = .trigger j
    · exact k.freed j hin
    · rw [k.kept j fun x hx hxj => hin ⟨x, hx, hxj⟩]
      refine h.freed j ⟨r', ?_, hj⟩
      rcases List.mem_cons.mp hr' with rfl | hr'
      · exact List.mem_cons_self
      · exact absurd ⟨r', hr', hj⟩ hin
  · rw [k.kept j fun x hx => hj x (List.mem_cons_of_mem _ hx), h.kept j fun x hx => ?_]
    rw [List.mem_singleton.mp hx]
    exact hj r List.mem_cons_self
  · rw [k.still fun x hx => hall x (List.mem_cons_of_mem _ hx), h.still fun x hx => ?_]
    rw [List.mem_singleton.mp hx]
    exact hall r List.mem_cons_self

theorem freesTriggers_foldl (q : List MemRequest) {s : State} (hp : s.park = []) (hw : s.waiting = none) :
    FreesTriggers q s (q.foldl (fun s r => discardForwarded r s) s) := by
  induction q generalizing s with
  | nil => exact ⟨rfl, fun _ ⟨_, hr, _⟩ => (nomatch hr), fun _ _ => rfl, fun _ => rfl⟩
  | cons r q ih =>
    have hfirst := freesTriggers_discardForwarded r hp hw
    exact hfirst.cons (ih ((congrArg State.park hfirst.rest).trans hp) ((congrArg State.waiting hfirst.rest).trans hw))

theorem discardForReset_slot (s : State) (k : SlotIdx) :
    (discardForReset s).slot k = (s.slot k).map (fun sl =>
      if sl.phase = .reading ∨ sl.phase = .recording then { sl with dropped := true } else sl) := by
  have hdrop : (fun sl : Slot => if sl.beforeForwarding then sl.drop else sl) =
      (fun sl => if sl.phase = .reading ∨ sl.phase = .recording then { sl with dropped := true } else sl) := by
    funext sl
    cases hphase : sl.phase <;> simp [Slot.beforeForwarding, Slot.drop, hphase]
  simp only [discardForReset, dropTriggers, State.slot, hdrop]
  simp

/-- Settles O5, by the fold over the forward queue. -/
theorem systemPortResetDiscardsTheRequests : Obligations.SystemPortResetDiscardsTheRequests := by
  unfold Obligations.SystemPortResetDiscardsTheRequests
  intro s hp
  have hfree : FreesTriggers s.forwardQ (discardForReset s) (assertSrst s) := freesTriggers_foldl s.forwardQ rfl rfl
  have hexec : exec .systemPortReset s = .next (assertSrst s) := congrArg Host.Outcome.next (if_neg (by simp [hp]))
  refine ⟨assertSrst s, hexec, ?_, fun k => ?_, hfree.freed, fun k hk => ?_, fun hall => ?_⟩
  · rw [hfree.rest]
    rfl
  · have htable := congrArg State.table hfree.rest
    rw [← discardForReset_entry]
    simp only [State.entry, htable]
  · rw [hfree.kept k hk, discardForReset_slot]
  · rw [hfree.still hall]
    exact ⟨rfl, rfl, rfl, rfl⟩

end Sys2Proof.Machine
end

section
/-! The management commands that set a window's values and steer its arming: STATUS and QUERY, CONFIGURE and BIND_RING, ARM,
RELEASE, REWIND, PAUSE and RESUME, DISARM (R152, R153, R156, R158 to R163, R166). -/

namespace Sys2Proof.Machine

open Sys2Proof

/-! ### A command of a window -/

/-- A command that names a window is decided for that window. -/
theorem next_takeCommand_onWindow {s t : State} {w : WindowIdx} {reply : Reply} {f : WindowIdx → State → Reply × State}
    (hp : s.por = false) (echo : Byte) (hd : f w s = (reply, t)) :
    (Host.Outcome.next (takeCommand echo (onWindow (windowByte w) f) s) : Result) =
      .next (taken reply.status echo reply.data s t) :=
  congrArg _ (takeCommand_of_decision hp echo ((onWindow_windowByte w f s).trans hd))

theorem exhausted_iff (v : Window) : v.exhausted = true ↔ 4294967295 ≤ v.lastGen := decide_eq_true_iff

theorem not_exhausted {v : Window} (h : v.lastGen < 4294967295) : v.exhausted = false := by
  rw [← Bool.not_eq_true, exhausted_iff]
  omega

/-! ### STATUS and QUERY (R163, R166) -/

theorem queryPage_eq (s : State) (w : WindowIdx) {page : Nat} (h : page ≤ 3) :
    queryPage s w page =
      (if page = 0 then page0 s w else if page = 1 then page1 (s.window w)
        else if page = 2 then page2 (s.window w) else page3 (s.window w)) := by
  interval_cases page <;> rfl

theorem decideQuery_of_page (w : WindowIdx) (s : State) {page : Nat} (h : page ≤ 3) :
    decideQuery (BitVec.ofNat 8 page) w s =
      ({ status := .done, data := windowByte w :: BitVec.ofNat 8 page :: queryPage s w page }, s) := by
  have hpage : (BitVec.ofNat 8 page).toNat = page := toNat_ofNat_of_lt (by omega)
  simp only [decideQuery, hpage, if_neg (Nat.not_lt.mpr h)]
  rfl

theorem exec_status {s : State} (hp : s.por = false) : exec .status s = .next (taken .done 0x01 (statusData s) s s) := by
  have hd : decideStatus s = ({ status := .done, data := statusData s }, s) := rfl
  exact congrArg Host.Outcome.next (takeCommand_of_decision hp 0x01 hd)

/-- Settles O6, by the decisions of the two commands. -/
theorem statusAndQueryReport : Obligations.StatusAndQueryReport := by
  refine ⟨fun s hp => exec_status hp, fun w page s hp hpage => ?_⟩
  rw [← queryPage_eq s w hpage]
  exact next_takeCommand_onWindow hp 0x0E (decideQuery_of_page w s hpage)

/-! ### CONFIGURE and BIND_RING (R152, R153) -/

theorem fenceOfByte_code (f : FenceMode) : fenceOfByte f.code = some f := by cases f <;> rfl

theorem policyOfByte_code (p : RingPolicy) : policyOfByte p.code = some p := by cases p <;> rfl

theorem tickOfByte_code (q : QuietTick) : tickOfByte q.code = some q := by cases q <;> rfl

theorem depthOfByte_ofNat {d : Nat} (h1 : 1 ≤ d) (h4 : d ≤ 4) : depthOfByte (BitVec.ofNat 8 d) = some d := by
  have hd : (BitVec.ofNat 8 d).toNat = d := toNat_ofNat_of_lt (by omega)
  simp only [depthOfByte, hd]
  exact if_pos ⟨h1, h4⟩

theorem decideConfigure_of_values {fence policy depth tick autoClose : Byte} {reload : BitVec 16} {w : WindowIdx}
    {s : State} {v : Window} (hs : (s.window w).state = .defined)
    (hv : configureValues (s.window w) fence policy depth reload tick autoClose = some v) :
    decideConfigure fence policy depth reload tick autoClose w s =
      ({ status := .done, data := [fence, policy, depth] ++ leBytes 2 reload.toNat ++ [tick, autoClose] },
        s.setWindow w v) := by
  simp only [decideConfigure, hs, ne_eq, not_true_eq_false, if_false, hv]

theorem configureValues_codes (v : Window) (f : FenceMode) (p : RingPolicy) {d : Nat} (reload : BitVec 16) (q : QuietTick)
    (a : Bool) (h1 : 1 ≤ d) (h4 : d ≤ 4) :
    configureValues v f.code p.code (BitVec.ofNat 8 d) reload q.code (flagByte a) =
      some { v with fence := f, policy := p, depth := d, quietReload := reload.toNat, quietTick := q, autoClose := a } := by
  simp only [configureValues, fenceOfByte_code, policyOfByte_code, depthOfByte_ofNat h1 h4, tickOfByte_code,
    onOffOfByte_flagByte]

theorem rangesOverlap_iff (a n b m : Nat) : rangesOverlap a n b m = true ↔ a < b + m ∧ b < a + n := by
  simp [rangesOverlap]

theorem overlapsWindow_iff (s : State) (except : WindowIdx → Bool) (base size : Nat) :
    overlapsWindow s except base size = true ↔
      ∃ u, except u = false ∧ (s.window u).state ≠ .unused ∧ base < (s.window u).base.toNat + (s.window u).size ∧
        (s.window u).base.toNat < base + size := by
  simp [overlapsWindow, rangesOverlap_iff, and_assoc]

theorem overlapsRing_iff (s : State) (w : WindowIdx) (base size : Nat) :
    overlapsRing s w base size = true ↔
      ∃ u b, u ≠ w ∧ (s.window u).state ≠ .unused ∧ (s.window u).binding = some b ∧ base < b.base.toNat + b.bytes ∧
        b.base.toNat < base + size := by
  simp only [overlapsRing, List.any_eq_true, List.mem_finRange, true_and, Bool.and_eq_true, bne_iff_ne, ne_eq,
    Option.any_eq_true, rangesOverlap_iff]
  constructor
  · rintro ⟨u, ⟨hu, hs⟩, b, hb, ho⟩
    exact ⟨u, b, hu, hs, hb, ho⟩
  · rintro ⟨u, b, hu, hs, hb, ho⟩
    exact ⟨u, ⟨hu, hs⟩, b, hb, ho⟩

theorem overlapsWindow_of_apart {s : State} {except : WindowIdx → Bool} {base size : Nat}
    (h : ∀ u, except u = false → (s.window u).state ≠ .unused →
      base + size ≤ (s.window u).base.toNat ∨ (s.window u).base.toNat + (s.window u).size ≤ base) :
    overlapsWindow s except base size = false := by
  rw [← Bool.not_eq_true, overlapsWindow_iff]
  rintro ⟨u, hu, hs, ho⟩
  have := h u hu hs
  omega

theorem overlapsRing_of_apart {s : State} {w : WindowIdx} {base size : Nat}
    (h : ∀ u b, u ≠ w → (s.window u).state ≠ .unused → (s.window u).binding = some b →
      base + size ≤ b.base.toNat ∨ b.base.toNat + b.bytes ≤ base) : overlapsRing s w base size = false := by
  rw [← Bool.not_eq_true, overlapsRing_iff]
  rintro ⟨u, b, hu, hs, hb, ho⟩
  have := h u b hu hs hb
  omega

theorem bindInRange_iff (base : BitVec 40) (blocks high : Nat) :
    bindInRange base { base := base, blocks := blocks, high := high } = true ↔
      base.toNat % 65536 = 0 ∧ 1 ≤ blocks ∧ blocks ≤ 65536 ∧ base.toNat + blocks * 65536 ≤ 2 ^ 40 ∧ 1 ≤ high ∧
        high ≤ blocks * 512 := by
  simp only [bindInRange, Bool.and_eq_true, decide_eq_true_iff, and_assoc]
  rfl

theorem decideBindRing_of_free {base : BitVec 40} {blocks : BitVec 24} {high : BitVec 32} {w : WindowIdx} {s : State}
    (hs : (s.window w).state = .defined)
    (hr : bindInRange base { base := base, blocks := blocks.toNat, high := high.toNat } = true)
    (hw : overlapsWindow s (fun _ => false) base.toNat (blocks.toNat * 65536) = false)
    (ho : overlapsRing s w base.toNat (blocks.toNat * 65536) = false)
    (hp : placedWriteIn s base.toNat (blocks.toNat * 65536) = false) :
    decideBindRing base blocks high w s =
      ({ status := .done,
         data := leBytes 5 base.toNat ++ leBytes 3 blocks.toNat ++ leBytes 4 high.toNat ++ leBytes 4 (blocks.toNat * 512) },
        s.modWindow w (fun v => { v with binding := some { base := base, blocks := blocks.toNat, high := high.toNat } })) := by
  simp [decideBindRing, hs, hr, RingBinding.bytes, RingBinding.capacity, hw, ho, hp]

/-- Settles O8: every test of the two commands passes. -/
theorem configureAndBindRingSetTheirValues : Obligations.ConfigureAndBindRingSetTheirValues := by
  refine ⟨fun w f p d reload q a s hp hs h1 h4 => ?_, fun w base blocks high s hp hs h0 h1 h2 h3 h4 h5 hwin hring hfree => ?_⟩
  · exact next_takeCommand_onWindow hp 0x03
      (decideConfigure_of_values hs (configureValues_codes _ f p reload q a h1 h4))
  · exact next_takeCommand_onWindow hp 0x04 (decideBindRing_of_free hs
      ((bindInRange_iff _ _ _).mpr ⟨h0, h1, h2, h3, h4, h5⟩) (overlapsWindow_of_apart fun u _ => hwin u)
      (overlapsRing_of_apart hring) hfree)

/-! ### ARM (R156) -/

theorem decideArm_of_number_left {w : WindowIdx} {s : State} (hs : (s.window w).state = .defined)
    (hb : (s.window w).binding ≠ none) (hl : (s.window w).lastGen < 4294967295) :
    decideArm w s = ({ status := .done, data := leBytes 4 ((s.window w).lastGen + 1) },
      raiseTrigger (s.setWindow w (s.window w).armedFresh)) := by
  simp [decideArm, hs, hb, not_exhausted hl]

/-- Settles O10. -/
theorem armOpensTheFirstGeneration : Obligations.ArmOpensTheFirstGeneration :=
  fun _ _ hp hs hb hl => next_takeCommand_onWindow hp 0x06 (decideArm_of_number_left hs hb hl)

/-! ### RELEASE (R158) -/

/-- GEN_RELEASED (R15, R125). -/
def genReleasedEvent (w : WindowIdx) (n : Nat) (cause : ReleaseCause) : EventBody :=
  { kind := .genReleased, window := some w, generation := some n, cause := some (.release cause) }

/-- A release of an oldest entry with no record frees none of the ring, and raises no trigger. -/
theorem releaseOldest_of_noRecord {w : WindowIdx} (cause : ReleaseCause) {s : State} {m : GenEntry} {rest : List GenEntry}
    (hg : (s.window w).gens = m :: rest) (hc : m.recordCount = 0) :
    releaseOldest w cause s =
      emit (genReleasedEvent w m.number cause) (s.setWindow w { s.window w with gens := rest }) := by
  simp only [releaseOldest, hg, hc, RingState.released, if_true]
  rfl

theorem releaseOldest_of_records {w : WindowIdx} (cause : ReleaseCause) {s : State} {m : GenEntry} {rest : List GenEntry}
    (hg : (s.window w).gens = m :: rest) (hc : 0 < m.recordCount) :
    releaseOldest w cause s = raiseTrigger (emit (genReleasedEvent w m.number cause) (s.setWindow w { s.window w with
      gens := rest
      ring := { (s.window w).ring with
        tail := ((s.window w).ring.tail + m.recordCount) % (s.window w).capacity
        occupancy := (s.window w).ring.occupancy - m.recordCount
        full := (s.window w).ring.full && !decide ((s.window w).ring.occupancy - m.recordCount < (s.window w).capacity)
        high := (s.window w).ring.high &&
          !decide ((s.window w).ring.occupancy - m.recordCount < (s.window w).highThreshold) } })) := by
  simp only [releaseOldest, hg, RingState.released, if_neg (Nat.pos_iff_ne_zero.mp hc)]
  rfl

theorem decideRelease_of_two {w : WindowIdx} {s : State} {m n : GenEntry} {rest : List GenEntry}
    (hs : (s.window w).state = .armed) (hg : (s.window w).gens = m :: n :: rest) (hm : m.state ≠ .closing) :
    decideRelease w s =
      ({ status := .done, data := leBytes 4 m.number ++ leBytes 4 m.recordCount }, releaseOldest w .command s) := by
  simp only [decideRelease, hs, hg, ne_eq, not_true_eq_false, if_false, if_neg hm]

theorem decideRelease_of_one {w : WindowIdx} {s : State} {m : GenEntry} (hs : (s.window w).state = .armed)
    (hg : (s.window w).gens = [m]) : decideRelease w s = refuse .empty s := by
  simp only [decideRelease, hs, hg, ne_eq, not_true_eq_false, if_false]

theorem decideRelease_of_closing {w : WindowIdx} {s : State} {m n : GenEntry} {rest : List GenEntry}
    (hs : (s.window w).state = .armed) (hg : (s.window w).gens = m :: n :: rest) (hm : m.state = .closing) :
    decideRelease w s = refuse .busy s := by
  simp only [decideRelease, hs, hg, ne_eq, not_true_eq_false, if_false, hm, if_true]

/-- Settles O12, by the shapes of the generation list. -/
theorem releaseFreesTheOldestGeneration : Obligations.ReleaseFreesTheOldestGeneration := by
  refine ⟨fun w m n rest s hp hs hg hm hc => ?_, fun w m n rest s hp hs hg hm hc => ?_, fun w m s hp hs hg => ?_,
    fun w m n rest s hp hs hg hm => ?_⟩
  · have hd := decideRelease_of_two hs hg hm
    rw [releaseOldest_of_noRecord .command hg hc, hc] at hd
    exact next_takeCommand_onWindow hp 0x08 hd
  · have hd := decideRelease_of_two hs hg hm
    rw [releaseOldest_of_records .command hg hc] at hd
    exact next_takeCommand_onWindow hp 0x08 hd
  · exact next_takeCommand_onWindow hp 0x08 (decideRelease_of_one hs hg)
  · exact next_takeCommand_onWindow hp 0x08 (decideRelease_of_closing hs hg hm)

/-! ### REWIND (R159) -/

theorem decideRewind_of_target {w : WindowIdx} {s : State} {g : BitVec 32} (hs : (s.window w).state = .armed)
    (hl : (s.window w).lastGen < 4294967295) (ht : ∃ e ∈ (s.window w).gens, e.number = g.toNat) :
    decideRewind g w s = ({ status := .accepted, data := leBytes 4 g.toNat ++ leBytes 4 (s.window w).openNumber },
      rewindEffect w g.toNat s) := by
  have hany : (s.window w).gens.any (fun e => e.number == g.toNat) = true := by simpa using ht
  simp [decideRewind, hs, not_exhausted hl, hany]

/-- The drain that a rewind begins may end at once exactly when nothing is in flight (R67, R71). -/
theorem drainMayEnd_of_accepted (w : WindowIdx) (g : Nat) (s : State) :
    drainMayEnd (raiseTrigger (s.setWindow w { (s.window w).quietStopped with
      state := .rewinding, rewind := some (RewindContext.accepted g) })) w = drainEmpty s w := by
  simp [drainMayEnd, drainEmpty, RewindContext.accepted, MemRequest.inDrain, Window.covers, Window.quietStopped]

/-- Settles O13: the drain ends at once when its set is empty. -/
theorem rewindRaisesTheFence : Obligations.RewindRaisesTheFence := by
  rintro w g s s1 hp hs hl ht rfl
  have hd := decideRewind_of_target hs hl ht
  have heffect : rewindEffect w g.toNat s =
      (if drainEmpty s w then endDrain w (raiseTrigger (s.setWindow w { (s.window w).quietStopped with
          state := .rewinding, rewind := some (RewindContext.accepted g.toNat) }))
        else raiseTrigger (s.setWindow w { (s.window w).quietStopped with
          state := .rewinding, rewind := some (RewindContext.accepted g.toNat) })) := by
    rw [← drainMayEnd_of_accepted w g.toNat s]
    rfl
  rw [heffect] at hd
  constructor
  · intro he
    rw [if_neg (by simp [he])] at hd
    exact next_takeCommand_onWindow hp 0x09 hd
  · intro he
    rw [if_pos he] at hd
    exact next_takeCommand_onWindow hp 0x09 hd

/-! ### PAUSE and RESUME (R160, R161) -/

theorem pauseData_of_context {v : Window} {c : RewindContext} (h : v.rewind = some c) :
    pauseData v = [c.phase.code] ++ leBytes 4 c.restored ++ leBytes 4 c.skipped ++ [flagByte c.stop.isSome] ++
      leBytes 4 ((c.stop.map (·.remaining)).getD 0) := by
  simp [pauseData, h, opt1, opt4]

theorem decidePause_of_context {w : WindowIdx} {s : State} {c : RewindContext} (hs : (s.window w).state = .rewinding)
    (h : (s.window w).rewind = some c) :
    decidePause w s =
      ({ status := if c.pauseRequested then .done else .accepted, data := pauseData (s.window w) },
        s.setWindow w { s.window w with rewind := some { c with pauseRequested := true } }) := by
  cases hc : c.pauseRequested with
  | true =>
    have hsame : ({ c with pauseRequested := true } : RewindContext) = c := by rw [← hc]
    have hwindow : { s.window w with rewind := some c } = s.window w := by rw [← h]
    rw [hsame, hwindow, setWindow_window]
    simp [decidePause, hs, h, hc]
  | false => simp [decidePause, hs, h, hc, modContext, State.modWindow]

/-- The window record of a walk that a RESUME goes on with (R84). -/
def Window.resumed (v : Window) (c : RewindContext) : Window :=
  { v with state := .rewinding, rewind := some { c with phase := .walk } }

/-- The states of a RESUME, by what the context holds (R84). -/
theorem resumeRewind_eq {w : WindowIdx} {s : State} {c : RewindContext} {f : StopFields} (h : (s.window w).rewind = some c)
    (hf : c.stop = some f) :
    resumeRewind w s =
      (match c.inHand with
      | some r => grantRewindSource (raiseTrigger (s.setWindow w { (s.window w).resumed c with
          rewind := some { c with phase := .walk, inHand := some (RecordInHand.taken r.position r.sequence true) } }))
      | none =>
        if f.remaining = 0 then completeRewind w (raiseTrigger (s.setWindow w ((s.window w).resumed c)))
        else grantRewindSource (raiseTrigger (s.setWindow w { (s.window w).resumed c with
          rewind := some { c with
            phase := .walk, inHand := some (RecordInHand.taken f.nextPosition f.nextSequence false) } }))) := by
  have hset : ∀ (v : Window) (t : State), (raiseTrigger t).setWindow w v = raiseTrigger (t.setWindow w v) := fun _ _ => rfl
  cases hr : c.inHand <;>
    simp [resumeRewind, State.modWindow, modContext, setInHand, takeRecord, h, hf, hr, hset, Window.resumed]

theorem decideResume_of_paused {w : WindowIdx} {s : State} (hs : (s.window w).state = .paused) :
    decideResume w s = ({ status := .accepted, data := resumeData (s.window w) }, resumeRewind w s) := by
  simp [decideResume, hs]

theorem resumeData_of_context {v : Window} {c : RewindContext} {f : StopFields} (h : v.rewind = some c)
    (hf : c.stop = some f) :
    resumeData v = leBytes 4 f.remaining ++ [flagByte c.inHand.isSome] ++ leBytes 4 ((c.inHand.map (·.position)).getD 0) ++
      leBytes 4 ((c.inHand.map (·.sequence.toNat)).getD 0) := by
  simp [resumeData, h, hf, opt4]

/-- Settles O14: PAUSE sets its flag, RESUME goes on by what the context holds. -/
theorem pauseAndResumeSteerTheWalk : Obligations.PauseAndResumeSteerTheWalk := by
  refine ⟨fun w c s hp hs h => ?_, fun w c f s hp hs h hf => ⟨fun r hr => ?_, fun hn h0 => ?_, fun hn h0 => ?_⟩⟩
  · rw [← pauseData_of_context h]
    exact next_takeCommand_onWindow hp 0x0A (decidePause_of_context hs h)
  all_goals have hd := decideResume_of_paused hs
  · rw [resumeData_of_context h hf, resumeRewind_eq h hf, hr] at hd
    exact next_takeCommand_onWindow hp 0x0B hd
  · rw [resumeData_of_context h hf, resumeRewind_eq h hf, hn] at hd
    simp only [if_neg (Nat.pos_iff_ne_zero.mp h0)] at hd
    exact next_takeCommand_onWindow hp 0x0B hd
  · rw [resumeData_of_context h hf, resumeRewind_eq h hf, hn] at hd
    simp only [if_pos h0] at hd
    rw [h0] at hd
    exact next_takeCommand_onWindow hp 0x0B hd

/-! ### DISARM (R162) -/

theorem disarmCompletion_quietStopped (w : WindowIdx) (s : State) :
    disarmCompletion w (s.setWindow w (s.window w).quietStopped) = disarmCompletion w s := by
  simp [disarmCompletion, Window.disarmed, Window.quietStopped]

theorem decideDisarm_of_last {w : WindowIdx} {s : State}
    (hs : (s.window w).state = .armed ∨ (s.window w).state = .paused ∨ (s.window w).state = .faulted)
    (hn : s.slotsOf w = []) :
    decideDisarm w s =
      ({ status := .done,
         data := [flagByte (s.window w).rewind.isSome] ++ leBytes 4 (((s.window w).rewind.map (·.restored)).getD 0) ++ [0] },
        disarmCompletion w s) := by
  rcases hs with hs | hs | hs <;> simp [decideDisarm, hs, hn, disarmCompletion_quietStopped, opt4]

theorem decideDisarm_of_slots {w : WindowIdx} {s : State}
    (hs : (s.window w).state = .armed ∨ (s.window w).state = .paused ∨ (s.window w).state = .faulted)
    (hn : s.slotsOf w ≠ []) :
    decideDisarm w s =
      ({ status := .accepted, data := [0, 0, 0, 0, 0, BitVec.ofNat 8 (s.slotsOf w).length] },
        raiseTrigger (s.setWindow w { (s.window w).quietStopped with state := .disarming })) := by
  rcases hs with hs | hs | hs <;> simp [decideDisarm, hs, hn, State.modWindow]

/-- Settles O15, by whether a slot names the window. -/
theorem disarmEndsTheArming : Obligations.DisarmEndsTheArming :=
  fun _ _ hp hs => ⟨fun hn => next_takeCommand_onWindow hp 0x0C (decideDisarm_of_last hs hn),
    fun hn => next_takeCommand_onWindow hp 0x0C (decideDisarm_of_slots hs hn)⟩

end Sys2Proof.Machine
end

section
/-! DEFINE and DELETE with the filter they leave, and CLOSE with the release that the depth rule adds to it (R11, R14, R28, R151,
R155, R157). -/

namespace Sys2Proof.Machine

open Sys2Proof

/-! ### DEFINE and DELETE (R28, R111, R151, R155) -/

theorem defineInRange_iff (base size : BitVec 40) :
    defineInRange base size = true ↔
      base.toNat % 4096 = 0 ∧ size.toNat % 4096 = 0 ∧ 4096 ≤ size.toNat ∧ size.toNat ≤ 2 ^ 36 ∧
        base.toNat + size.toNat ≤ 2 ^ 40 := by
  simp only [defineInRange, Bool.and_eq_true, decide_eq_true_iff, and_assoc]

/-- In a list of sets whose indexes rise strictly, a removal from every set is a removal from the set read. -/
theorem filterGet_remove {f : List (Nat × FilterSet)} (hf : (f.map (·.1)).Pairwise (· < ·)) (p : FilterEntry → Bool) (i : Nat) :
    filterGet ((f.map (fun q => (q.1, q.2.filter p))).filter (fun q => !q.2.isEmpty)) i = (filterGet f i).filter p := by
  induction f with
  | nil => rfl
  | cons q rest ih =>
    obtain ⟨j, v⟩ := q
    obtain ⟨hlt, hrest⟩ := List.pairwise_cons.mp hf
    have hread := ih hrest
    by_cases hji : j = i
    · subst hji
      have hnone : filterGet rest j = [] :=
        filterGet_of_lt rest j fun q hq => hlt q.1 (List.mem_map_of_mem hq)
      rw [hnone] at hread
      by_cases hv : v.filter p = []
      · simpa [filterGet, hv] using hread
      · simp [filterGet, hv]
    · by_cases hv : v.filter p = []
      · simpa [filterGet, hv, hji] using hread
      · simpa [filterGet, hv, hji] using hread

theorem filterGet_filterRemove {s : State} (h : FilterOk s) (w : WindowIdx) (i : Nat) :
    filterGet (filterRemove w s).filter i = (filterGet s.filter i).filter (fun e => e.window != w) :=
  filterGet_remove ((filterCanonical_iff s.filter).mp h.canonical).2 _ i

theorem decideDefine_of_free {base size : BitVec 40} {w : WindowIdx} {s : State}
    (hs : (s.window w).state = .unused ∨ (s.window w).state = .defined) (hr : defineInRange base size = true)
    (hw : overlapsWindow s (· == w) base.toNat size.toNat = false) (ho : overlapsRing s w base.toNat size.toNat = false) :
    decideDefine base size w s =
      ({ status := .done, data := leBytes 5 base.toNat ++ leBytes 5 size.toNat }, defineEffect w base size s) := by
  rcases hs with hs | hs <;> simp [decideDefine, hs, hr, hw, ho]

theorem decideDelete_of_defined {w : WindowIdx} {s : State} (hs : (s.window w).state = .defined) :
    decideDelete w s = ({ status := .done, data := [] }, deleteEffect w s) := by
  simp [decideDelete, hs]

/-- Settles O7: the filter is what the removal of R28 leaves. -/
theorem defineAndDeleteReplaceTheRecord : Obligations.DefineAndDeleteReplaceTheRecord := by
  refine ⟨fun w base size s hp hf hs h0 h1 h2 h3 h4 hwin hring => ?_, fun w s hp hf hs => ?_⟩
  · have hapart : overlapsWindow s (· == w) base.toNat size.toNat = false :=
      overlapsWindow_of_apart fun u hu => hwin u (by simpa using hu)
    exact ⟨(filterRemove w s).filter, next_takeCommand_onWindow hp 0x02
      (decideDefine_of_free hs ((defineInRange_iff _ _).mpr ⟨h0, h1, h2, h3, h4⟩) hapart (overlapsRing_of_apart hring)),
      filterGet_filterRemove hf w⟩
  · exact ⟨(filterRemove w s).filter, next_takeCommand_onWindow hp 0x0D (decideDelete_of_defined hs),
      filterGet_filterRemove hf w⟩

/-! ### A close and its releases (R11, R14) -/

/-- GEN_CLOSED with its cause (R11, R13, R125). -/
def genClosedEvent (w : WindowIdx) (n : Nat) (k : CloseCause) : EventBody :=
  { kind := .genClosed, window := some w, generation := some n, cause := some (.close k) }

/-- The record of a window whose newest entry `e` has been closed, the depth rule not yet applied (R11). -/
def Window.closedLast (k : CloseCause) (older : List GenEntry) (e : GenEntry) (v : Window) : Window :=
  { v.quietStopped with
    gens := older ++ [e.closeWith k, GenEntry.fresh (v.lastGen + 1)]
    lastGen := v.lastGen + 1 }

/-- The state once the newest entry `e` is closed: GEN_CLOSED at once when it has no slot pending (R11). -/
def withClosed (w : WindowIdx) (k : CloseCause) (older : List GenEntry) (e : GenEntry) (s : State) : State :=
  (if 0 < e.slotsPending then id else emit (genClosedEvent w e.number k)) (s.setWindow w ((s.window w).closedLast k older e))

theorem withClosed_window (w : WindowIdx) (k : CloseCause) (older : List GenEntry) (e : GenEntry) (s : State) :
    (withClosed w k older e s).window w = (s.window w).closedLast k older e := by
  unfold withClosed
  split <;> exact window_setWindow_self s w _

theorem closeGeneration_eq {w : WindowIdx} {s : State} {older : List GenEntry} {e : GenEntry} (k : CloseCause)
    (hg : (s.window w).gens = older ++ [e]) (he : e.state = .opened) (ho : ∀ o ∈ older, o.state ≠ .opened) :
    closeGeneration w k s = depthRule w (withClosed w k older e s) := by
  have hopen := openEntry_last hg he ho
  have hclosed : (s.window w).closedBy k = (s.window w).closedLast k older e := by
    simp [Window.closedBy, Window.closedLast, hg, mapOpen_last _ he ho]
  have hpending : (0 < e.slotsPending) = ¬(e.slotsPending = 0) := by rw [Nat.pos_iff_ne_zero]
  simp only [closeGeneration, hopen, hclosed, withClosed, hpending, ite_not]
  split <;> rfl

theorem releaseOldest_eq {w : WindowIdx} (cause : ReleaseCause) {s : State} {m : GenEntry} {rest : List GenEntry}
    (hg : (s.window w).gens = m :: rest) :
    releaseOldest w cause s = (if m.recordCount = 0 then id else raiseTrigger)
      (emit (genReleasedEvent w m.number cause) (s.setWindow w { s.window w with
        gens := rest, ring := (s.window w).ring.released (s.window w).capacity (s.window w).highThreshold m.recordCount })) := by
  simp only [releaseOldest, hg]
  split <;> rfl

theorem RingState.released_of_none (r : RingState) (capacity high : Nat) {c : Nat} (h : c = 0) :
    r.released capacity high c = r := if_pos h

theorem RingState.released_of_pos (r : RingState) (capacity high : Nat) {c : Nat} (h : 0 < c) :
    r.released capacity high c = { r with
      tail := (r.tail + c) % capacity
      occupancy := r.occupancy - c
      full := r.full && !decide (r.occupancy - c < capacity)
      high := r.high && !decide (r.occupancy - c < high) } := if_neg (Nat.pos_iff_ne_zero.mp h)

/-- The release of the oldest entry after a close. -/
theorem releaseOldest_withClosed {w : WindowIdx} {s : State} {older rest : List GenEntry} {e m : GenEntry} (k : CloseCause)
    (hg : older ++ [e.closeWith k, GenEntry.fresh ((s.window w).lastGen + 1)] = m :: rest) :
    releaseOldest w .depth (withClosed w k older e s) = (if m.recordCount = 0 then id else raiseTrigger)
      (emit (genReleasedEvent w m.number .depth) ((if 0 < e.slotsPending then id else emit (genClosedEvent w e.number k))
        (s.setWindow w { (s.window w).closedLast k older e with
          gens := rest
          ring := (s.window w).ring.released (s.window w).capacity (s.window w).highThreshold m.recordCount }))) := by
  have hwin := withClosed_window w k older e s
  have hgens : ((withClosed w k older e s).window w).gens = m :: rest := by rw [hwin]; exact hg
  have hset : ∀ v, (withClosed w k older e s).setWindow w v =
      (if 0 < e.slotsPending then id else emit (genClosedEvent w e.number k)) (s.setWindow w v) := fun v => by
    unfold withClosed
    split
    · exact setWindow_setWindow s w _ v
    · exact congrArg (emit _) (setWindow_setWindow s w _ v)
  rw [releaseOldest_eq .depth hgens, hset, hwin]
  rfl

/-! ### The decision of CLOSE (R157) -/

/-- The data of a CLOSE response (R157): the number of the entry closed and its state, the number of the next, and the oldest
number `old` when it is released, so that another is oldest. -/
def closeData (e : GenEntry) (next old new : Nat) : List Byte :=
  leBytes 4 e.number ++ [(if 0 < e.slotsPending then GenState.closing else GenState.closed).code] ++ leBytes 4 next ++
    [flagByte (decide (new ≠ old))] ++ leBytes 4 (if new ≠ old then old else 0)

theorem closeData_kept (e : GenEntry) (next : Nat) {old new : Nat} (h : new = old) :
    closeData e next old new = leBytes 4 e.number ++
      [(if 0 < e.slotsPending then GenState.closing else GenState.closed).code] ++ leBytes 4 next ++ [0, 0, 0, 0, 0] := by
  simp [closeData, h, flagByte, leBytes]

theorem closeData_released (e : GenEntry) (next : Nat) {old new : Nat} (h : new ≠ old) :
    closeData e next old new = leBytes 4 e.number ++
      [(if 0 < e.slotsPending then GenState.closing else GenState.closed).code] ++ leBytes 4 next ++ [1] ++
        leBytes 4 old := by
  simp [closeData, h, flagByte]

theorem decideClose_of_open {w : WindowIdx} {s : State} {older : List GenEntry} {e : GenEntry}
    (hs : (s.window w).state = .armed) (hg : (s.window w).gens = older ++ [e]) (he : e.state = .opened)
    (ho : ∀ o ∈ older, o.state = .closed) (hl : (s.window w).lastGen < 4294967295) :
    decideClose w s =
      ({ status := .done, data := closeData e ((s.window w).lastGen + 1) (s.window w).oldestNumber
          ((closeGeneration w .command s).window w).oldestNumber }, closeGeneration w .command s) := by
  have hopen := openEntry_last hg he (fun o h => by simp [ho o h])
  have hnumber : (s.window w).openNumber = e.number := by simp [Window.openNumber, hopen]
  have hstate : (if e.slotsPending = 0 then GenState.closed else GenState.closing) =
      (if 0 < e.slotsPending then GenState.closing else GenState.closed) := by
    by_cases h : e.slotsPending = 0 <;> simp [h, Nat.pos_iff_ne_zero]
  simp [decideClose, hs, hasClosing_last hg he ho, not_exhausted hl, hopen, hnumber, hstate, closeData]

theorem Window.oldestNumber_cons {v : Window} {m : GenEntry} {rest : List GenEntry} (h : v.gens = m :: rest) :
    v.oldestNumber = m.number := by
  simp [Window.oldestNumber, h]

/-- What a CLOSE that releases nothing answers, and the state it leaves. -/
theorem decideClose_of_kept {w : WindowIdx} {s : State} {older : List GenEntry} {e : GenEntry}
    (hs : (s.window w).state = .armed) (hg : (s.window w).gens = older ++ [e]) (he : e.state = .opened)
    (ho : ∀ o ∈ older, o.state = .closed) (hl : (s.window w).lastGen < 4294967295)
    (hd : depthRule w (withClosed w .command older e s) = withClosed w .command older e s) :
    decideClose w s =
      ({ status := .done
         data := leBytes 4 e.number ++ [(if 0 < e.slotsPending then GenState.closing else GenState.closed).code] ++
           leBytes 4 ((s.window w).lastGen + 1) ++ [0, 0, 0, 0, 0] },
        withClosed w .command older e s) := by
  have hsame : ((withClosed w .command older e s).window w).oldestNumber = (s.window w).oldestNumber := by
    rw [withClosed_window]
    cases older <;> simp [Window.oldestNumber, Window.closedLast, GenEntry.closeWith, hg]
  rw [decideClose_of_open hs hg he ho hl, closeGeneration_eq .command hg he (fun o h => by simp [ho o h]), hd,
    closeData_kept _ _ hsame]

/-- What a CLOSE under which the depth rule releases the oldest entry answers, and the state it leaves. -/
theorem decideClose_of_released {w : WindowIdx} {s : State} {older rest : List GenEntry} {e m : GenEntry}
    (hs : (s.window w).state = .armed) (hg : (s.window w).gens = older ++ [e]) (he : e.state = .opened)
    (ho : ∀ o ∈ older, o.state = .closed) (hl : (s.window w).lastGen < 4294967295)
    (hm : older ++ [e.closeWith .command, GenEntry.fresh ((s.window w).lastGen + 1)] = m :: rest) (hmc : m.state = .closed)
    (hd : rest.length = (s.window w).depth) (hold : (s.window w).oldestNumber = m.number)
    (hnew : (rest.head?.map (·.number)).getD 0 ≠ m.number) :
    decideClose w s =
      ({ status := .done
         data := leBytes 4 e.number ++ [(if 0 < e.slotsPending then GenState.closing else GenState.closed).code] ++
           leBytes 4 ((s.window w).lastGen + 1) ++ [1] ++ leBytes 4 m.number },
        releaseOldest w .depth (withClosed w .command older e s)) := by
  have hwin := withClosed_window w .command older e s
  have hgens : ((withClosed w .command older e s).window w).gens = m :: rest := by rw [hwin]; exact hm
  have hrule : depthRule w (withClosed w .command older e s) = releaseOldest w .depth (withClosed w .command older e s) :=
    depthRule_one w _ hgens hmc (by rw [hwin]; exact hd)
  have hoff : ((releaseOldest w .depth (withClosed w .command older e s)).window w).oldestNumber ≠
      (s.window w).oldestNumber := by
    rw [window_releaseOldest, Window.released_cons hgens, hold]
    exact hnew
  rw [decideClose_of_open hs hg he ho hl, closeGeneration_eq .command hg he (fun o h => by simp [ho o h]), hrule,
    closeData_released _ _ hoff, hold]

/-- Settles O11, by how long the list is and whether the entry closed has slots pending. -/
theorem closeOpensTheNextGeneration : Obligations.CloseOpensTheNextGeneration := by
  refine ⟨fun w older e s hp hs hg he ho hl hd => ?_, fun w m middle e s hp hs hg he ho hmid hm hl hd => ?_,
    fun w e s hp hs hg he hn hl hd => ⟨fun hpend => ?_, fun hnone => ?_⟩⟩
  · have hkept : depthRule w (withClosed w .command older e s) = withClosed w .command older e s := by
      refine depthRule_within w _ ?_
      rw [withClosed_window]
      simpa [Window.closedLast, Window.quietStopped] using hd
    exact next_takeCommand_onWindow hp 0x07 (decideClose_of_kept hs hg he ho hl hkept)
  · have hnumber := Window.oldestNumber_cons hg
    have hclosed : ∀ o ∈ m :: middle, o.state = .closed := fun o h => (ho o h).1
    have hnew : (((middle ++ [e.closeWith .command, GenEntry.fresh ((s.window w).lastGen + 1)]).head?.map
        (·.number)).getD 0) ≠ m.number := by
      cases middle with
      | nil => exact Ne.symm (ho m List.mem_cons_self).2
      | cons a middle => exact hmid a List.mem_cons_self
    have hsplit : (m :: middle) ++ [e.closeWith .command, GenEntry.fresh ((s.window w).lastGen + 1)] =
        m :: (middle ++ [e.closeWith .command, GenEntry.fresh ((s.window w).lastGen + 1)]) := rfl
    have hdecision := decideClose_of_released hs hg he hclosed hl hsplit (hclosed m List.mem_cons_self)
      (by simpa using hd) hnumber hnew
    rw [releaseOldest_withClosed .command hsplit] at hdecision
    exact ⟨_, next_takeCommand_onWindow hp 0x07 hdecision, RingState.released_of_none _ _ _,
      RingState.released_of_pos _ _ _⟩
  · have hg' : (s.window w).gens = [] ++ [e] := hg
    have hclosing : (e.closeWith .command).state = .closing := if_pos hpend
    have hkept : depthRule w (withClosed w .command [] e s) = withClosed w .command [] e s := by
      simp [depthRule, depthLoop, withClosed_window, Window.closedLast, Window.oldestClosed, hclosing]
    have hdecision := decideClose_of_kept hs hg' he (fun _ h => nomatch h) hl hkept
    simp only [withClosed, if_pos hpend, id] at hdecision
    have hentry : e.closeWith .command = { e with state := .closing, closeCause := some .command } := by
      simp [GenEntry.closeWith, hpend]
    simp only [Window.closedLast, hentry] at hdecision
    exact next_takeCommand_onWindow hp 0x07 hdecision
  · have hg' : (s.window w).gens = [] ++ [e] := hg
    have hpend : ¬0 < e.slotsPending := by omega
    have hclosed : (e.closeWith .command).state = .closed := if_neg hpend
    have hsplit : [] ++ [e.closeWith .command, GenEntry.fresh ((s.window w).lastGen + 1)] =
        e.closeWith .command :: [GenEntry.fresh ((s.window w).lastGen + 1)] := rfl
    have hnew : (([GenEntry.fresh ((s.window w).lastGen + 1)].head?.map (·.number)).getD 0) ≠ (e.closeWith .command).number :=
      Nat.ne_of_gt (Nat.lt_succ_of_le hn)
    have hold : (s.window w).oldestNumber = e.number := Window.oldestNumber_cons hg
    have hdecision := decideClose_of_released hs hg' he (fun _ h => nomatch h) hl hsplit hclosed hd.symm hold hnew
    rw [releaseOldest_withClosed .command hsplit] at hdecision
    simp only [if_neg hpend] at hdecision
    exact ⟨_, next_takeCommand_onWindow hp 0x07 hdecision, RingState.released_of_none _ _ _,
      RingState.released_of_pos _ _ _⟩

end Sys2Proof.Machine
end

section
/-! What is common to the management commands: the tests that refuse them (R150), the response each leaves (R144, R148), and what
none of them changes. -/

namespace Sys2Proof.Machine

open Sys2Proof

/-! ### The early tests (R150) -/

theorem next_takeCommand_badWindow {s : State} {b : Byte} (hp : s.por = false) (hb : 15 < b.toNat) (echo : Byte)
    (f : WindowIdx → State → Reply × State) :
    (Host.Outcome.next (takeCommand echo (onWindow b f) s) : Result) = .next (taken .badWindow echo [] s s) :=
  congrArg _ (takeCommand_of_decision hp echo (onWindow_of_large b f s hb))

theorem next_takeCommand_refused {s : State} {w : WindowIdx} {status : Status} {f : WindowIdx → State → Reply × State}
    (hp : s.por = false) (echo : Byte) (hd : f w s = refuse status s) :
    (Host.Outcome.next (takeCommand echo (onWindow (windowByte w) f) s) : Result) = .next (taken status echo [] s s) :=
  next_takeCommand_onWindow hp echo hd

theorem isCommandCode_eq_false_iff (code : Byte) : isCommandCode code = false ↔ code.toNat = 0 ∨ 16 < code.toNat := by
  rw [← Bool.not_eq_true]
  simp only [isCommandCode, Bool.and_eq_true, decide_eq_true_eq]
  omega

theorem exec_unknownCommand {code : Byte} {s : State} (hp : s.por = false) (hc : isCommandCode code = false) :
    exec (.unknownCommand code) s = .next (taken .unknownCommand code [] s s) := by
  have hd : decideUnknown s = ({ status := .unknownCommand, data := [] }, s) := rfl
  have hexec : exec (.unknownCommand code) s =
      .next (if isCommandCode code then s else takeCommand code decideUnknown s) := rfl
  rw [hexec, if_neg (by simp [hc]), takeCommand_of_decision hp code hd]

/-- A window index above 15 refuses every command that names a window. -/
theorem exec_of_badWindow {c : Instr} {b code : Byte} {s : State} (hp : s.por = false) (hw : windowOperand c = some b)
    (hc : c.code = some code) (hb : 15 < b.toNat) : exec c s = .next (taken .badWindow code [] s s) := by
  cases c with
  | define | configure | bindRing | setClass | delete | arm | close | release | rewind | pause | resume | disarm | query =>
    obtain rfl := Option.some.inj hw
    obtain rfl := Option.some.inj hc
    exact next_takeCommand_badWindow hp hb _ _
  | _ => exact nomatch hw

/-- A test that refuses with BAD_STATE where `p` holds has refused: `p` holds, and the status is BAD_STATE. -/
theorem badState_of_test {p : Prop} [Decidable p] {status : Status}
    (h : (if p then some Status.badState else none) = some status) : p ∧ status = .badState := by
  by_cases hp : p
  · rw [if_pos hp] at h
    exact ⟨hp, (Option.some.inj h).symm⟩
  · rw [if_neg hp] at h
    exact nomatch h

/-- The commands that only a window in one state takes, with that state (R150). -/
def takenIn : Instr → Option WindowState
  | .configure _ _ _ _ _ _ _ | .bindRing _ _ _ _ | .delete _ | .arm _ => some .defined
  | .close _ | .release _ | .rewind _ _ => some .armed
  | .pause _ => some .rewinding
  | .resume _ => some .paused
  | _ => none

theorem stateTest_of_takenIn {c : Instr} {only : WindowState} (h : takenIn c = some only) (st : WindowState) :
    stateTest c st = if st ≠ only then some .badState else none := by
  cases c with
  | configure | bindRing | delete | arm | close | release | rewind | pause | resume =>
    obtain rfl := Option.some.inj h
    cases st <;> rfl
  | _ => exact nomatch h

theorem stateTest_define (b : Byte) (base size : BitVec 40) (st : WindowState) :
    stateTest (.define b base size) st = if st ≠ .unused ∧ st ≠ .defined then some .badState else none := by
  cases st <;> rfl

theorem stateTest_setClass (b requester cls : Byte) (st : WindowState) :
    stateTest (.setClass b requester cls) st = if st = .unused then some .badState else none := by
  cases st <;> rfl

theorem decideDisarm_of_stateTest {b : Byte} {w : WindowIdx} {s : State} {status : Status}
    (h : stateTest (.disarm b) (s.window w).state = some status) : decideDisarm w s = refuse status s := by
  cases hs : (s.window w).state with
  | unused | defined | rewinding | disarming =>
    rw [hs] at h
    obtain rfl := Option.some.inj h
    simp only [decideDisarm, hs]
  | armed | paused | faulted =>
    rw [hs] at h
    simp [stateTest] at h

/-- The state test refuses a command of a window by the table of R150. -/
theorem exec_of_stateTest {c : Instr} {w : WindowIdx} {code : Byte} {status : Status} {s : State} (hp : s.por = false)
    (hw : windowOperand c = some (windowByte w)) (hc : c.code = some code)
    (ht : stateTest c (s.window w).state = some status) : exec c s = .next (taken status code [] s s) := by
  have honly : ∀ only, takenIn c = some only → (s.window w).state ≠ only ∧ status = .badState := fun only ho =>
    badState_of_test (stateTest_of_takenIn ho _ ▸ ht)
  cases c with
  | define b base size =>
    obtain ⟨hs, rfl⟩ := badState_of_test (stateTest_define b base size _ ▸ ht)
    obtain rfl := Option.some.inj hw
    obtain rfl := Option.some.inj hc
    exact next_takeCommand_refused hp 0x02 (if_pos hs)
  | setClass b requester cls =>
    obtain ⟨hs, rfl⟩ := badState_of_test (stateTest_setClass b requester cls _ ▸ ht)
    obtain rfl := Option.some.inj hw
    obtain rfl := Option.some.inj hc
    exact next_takeCommand_refused hp 0x05 (decideSetClass_of_unused requester cls hs)
  | configure | bindRing | delete | close | release | rewind | pause | resume =>
    obtain ⟨hs, rfl⟩ := honly _ (by rfl)
    obtain rfl := Option.some.inj hw
    obtain rfl := Option.some.inj hc
    exact next_takeCommand_refused hp _ (if_pos hs)
  | arm =>
    obtain ⟨hs, rfl⟩ := honly _ (by rfl)
    obtain rfl := Option.some.inj hw
    obtain rfl := Option.some.inj hc
    exact next_takeCommand_refused hp 0x06 (if_pos (.inl hs))
  | disarm b =>
    obtain rfl := Option.some.inj hw
    obtain rfl := Option.some.inj hc
    exact next_takeCommand_refused hp 0x0C (decideDisarm_of_stateTest ht)
  | query => exact nomatch ht
  | _ => exact nomatch hw

/-- Settles O20, by the tests in their order. -/
theorem earlyTestsRefuse : Obligations.EarlyTestsRefuse := by
  refine ⟨fun code s hp hc => exec_unknownCommand hp ((isCommandCode_eq_false_iff code).mpr hc),
    fun c b code s => exec_of_badWindow, fun c w code status s => exec_of_stateTest, fun w s hp hs hb => ?_⟩
  exact next_takeCommand_refused hp 0x06 (by simp [decideArm, hb])

/-! ### The late tests (R151 to R153, R156, R157, R159, R166) -/

theorem decideDefine_of_outOfRange {base size : BitVec 40} {w : WindowIdx} {s : State}
    (hs : (s.window w).state = .unused ∨ (s.window w).state = .defined) (hr : defineInRange base size = false) :
    decideDefine base size w s = refuse .badParam s := by
  rcases hs with hs | hs <;> simp [decideDefine, hs, hr]

theorem decideDefine_of_overlap {base size : BitVec 40} {w : WindowIdx} {s : State}
    (hs : (s.window w).state = .unused ∨ (s.window w).state = .defined) (hr : defineInRange base size = true)
    (ho : overlapsWindow s (· == w) base.toNat size.toNat = true ∨ overlapsRing s w base.toNat size.toNat = true) :
    decideDefine base size w s = refuse .overlap s := by
  rcases hs with hs | hs <;> simp [decideDefine, hs, hr, ho]

theorem fenceOfByte_of_no_code {b : Byte} (h : ∀ f : FenceMode, b ≠ f.code) : fenceOfByte b = none :=
  (if_neg (h .hold)).trans (if_neg (h .refuse))

theorem policyOfByte_of_no_code {b : Byte} (h : ∀ p : RingPolicy, b ≠ p.code) : policyOfByte b = none :=
  (if_neg (h .hold)).trans ((if_neg (h .refuse)).trans (if_neg (h .reclaim)))

theorem tickOfByte_of_no_code {b : Byte} (h : ∀ q : QuietTick, b ≠ q.code) : tickOfByte b = none :=
  (if_neg (h .us1)).trans ((if_neg (h .us10)).trans ((if_neg (h .us100)).trans (if_neg (h .us1000))))

theorem depthOfByte_of_outOfRange {b : Byte} (h : b.toNat = 0 ∨ 4 < b.toNat) : depthOfByte b = none :=
  if_neg (by omega)

/-- One value out of its codes or range is enough for CONFIGURE to have no values. -/
theorem configureValues_eq_none (v : Window) {fence policy depth tick autoClose : Byte} (reload : BitVec 16)
    (h : fenceOfByte fence = none ∨ policyOfByte policy = none ∨ depthOfByte depth = none ∨ tickOfByte tick = none ∨
      onOffOfByte autoClose = none) : configureValues v fence policy depth reload tick autoClose = none := by
  unfold configureValues
  split
  · rename_i hf hp hd ht ha
    simp [hf, hp, hd, ht, ha] at h
  · rfl

theorem decideConfigure_of_none {fence policy depth tick autoClose : Byte} {reload : BitVec 16} {w : WindowIdx} {s : State}
    (hs : (s.window w).state = .defined)
    (hv : configureValues (s.window w) fence policy depth reload tick autoClose = none) :
    decideConfigure fence policy depth reload tick autoClose w s = refuse .badParam s := by
  simp only [decideConfigure, hs, ne_eq, not_true_eq_false, if_false, hv]

section
variable {base : BitVec 40} {blocks : BitVec 24} {high : BitVec 32} {w : WindowIdx} {s : State}

theorem decideBindRing_of_outOfRange (hs : (s.window w).state = .defined)
    (hr : bindInRange base { base := base, blocks := blocks.toNat, high := high.toNat } = false) :
    decideBindRing base blocks high w s = refuse .badParam s := by
  simp [decideBindRing, hs, hr]

theorem decideBindRing_of_overlap (hs : (s.window w).state = .defined)
    (hr : bindInRange base { base := base, blocks := blocks.toNat, high := high.toNat } = true)
    (ho : overlapsWindow s (fun _ => false) base.toNat (blocks.toNat * 65536) = true ∨
      overlapsRing s w base.toNat (blocks.toNat * 65536) = true) :
    decideBindRing base blocks high w s = refuse .overlap s := by
  simp [decideBindRing, hs, hr, RingBinding.bytes, ho]

theorem decideBindRing_of_placed (hs : (s.window w).state = .defined)
    (hr : bindInRange base { base := base, blocks := blocks.toNat, high := high.toNat } = true)
    (hw : overlapsWindow s (fun _ => false) base.toNat (blocks.toNat * 65536) = false)
    (ho : overlapsRing s w base.toNat (blocks.toNat * 65536) = false)
    (hp : placedWriteIn s base.toNat (blocks.toNat * 65536) = true) :
    decideBindRing base blocks high w s = refuse .busy s := by
  simp [decideBindRing, hs, hr, RingBinding.bytes, hw, ho, hp]

end

theorem hasClosing_iff (v : Window) : v.hasClosing = true ↔ ∃ e ∈ v.gens, e.state = .closing := by
  simp [Window.hasClosing]

theorem decideArm_of_exhausted {w : WindowIdx} {s : State} (hs : (s.window w).state = .defined)
    (hb : (s.window w).binding ≠ none) (hl : 4294967295 ≤ (s.window w).lastGen) :
    decideArm w s = refuse .exhausted s := by
  simp [decideArm, hs, hb, (exhausted_iff _).mpr hl]

theorem decideClose_of_closing {w : WindowIdx} {s : State} (hs : (s.window w).state = .armed)
    (hc : ∃ e ∈ (s.window w).gens, e.state = .closing) : decideClose w s = refuse .busy s := by
  simp [decideClose, hs, (hasClosing_iff _).mpr hc]

theorem hasClosing_eq_false {v : Window} (h : ∀ e ∈ v.gens, e.state ≠ .closing) : v.hasClosing = false := by
  rw [← Bool.not_eq_true, hasClosing_iff]
  rintro ⟨e, he, hc⟩
  exact h e he hc

theorem decideClose_of_exhausted {w : WindowIdx} {s : State} (hs : (s.window w).state = .armed)
    (hc : ∀ e ∈ (s.window w).gens, e.state ≠ .closing) (hl : 4294967295 ≤ (s.window w).lastGen) :
    decideClose w s = refuse .exhausted s := by
  simp [decideClose, hs, hasClosing_eq_false hc, (exhausted_iff _).mpr hl]

theorem decideRewind_of_exhausted {w : WindowIdx} {s : State} (g : BitVec 32) (hs : (s.window w).state = .armed)
    (hl : 4294967295 ≤ (s.window w).lastGen) : decideRewind g w s = refuse .exhausted s := by
  simp [decideRewind, hs, (exhausted_iff _).mpr hl]

theorem decideRewind_of_noTarget {w : WindowIdx} {s : State} {g : BitVec 32} (hs : (s.window w).state = .armed)
    (hl : (s.window w).lastGen < 4294967295) (ht : ∀ e ∈ (s.window w).gens, e.number ≠ g.toNat) :
    decideRewind g w s = refuse .noTarget s := by
  have hany : (s.window w).gens.any (fun e => e.number == g.toNat) = false := by simpa using ht
  simp [decideRewind, hs, not_exhausted hl, hany]

/-- Settles O21, by the tests of each command in their order. -/
theorem lateTestsRefuse : Obligations.LateTestsRefuse := by
  refine ⟨fun w base size s hp hs => ⟨fun hr => ?_, fun hr ho => ?_⟩, fun w fence policy depth reload tick a s hp hs hv => ?_,
    fun w base blocks high s hp hs => ⟨fun hr => ?_, fun hr ho => ?_, fun hr hw ho hplaced => ?_⟩,
    fun w s hp hs hb hl => ?_, fun w s hp hs => ⟨fun hc => ?_, fun hc hl => ?_⟩,
    fun w g s hp hs => ⟨fun hl => ?_, fun hl ht => ?_⟩, fun w page s hp hpage => ?_⟩
  · have hout : defineInRange base size = false := by
      rw [← Bool.not_eq_true, defineInRange_iff]
      omega
    exact next_takeCommand_refused hp 0x02 (decideDefine_of_outOfRange hs hout)
  · refine next_takeCommand_refused hp 0x02 (decideDefine_of_overlap hs hr ?_)
    refine ho.imp (fun ⟨u, hu, h⟩ => ?_) (overlapsRing_iff _ _ _ _).mpr
    exact (overlapsWindow_iff _ _ _ _).mpr ⟨u, by simpa using hu, h⟩
  · refine next_takeCommand_refused hp 0x03 (decideConfigure_of_none hs (configureValues_eq_none _ _ ?_))
    rcases hv with h | h | h | h | h | h
    · exact .inl (fenceOfByte_of_no_code h)
    · exact .inr (.inl (policyOfByte_of_no_code h))
    · exact .inr (.inr (.inl (depthOfByte_of_outOfRange (.inl h))))
    · exact .inr (.inr (.inl (depthOfByte_of_outOfRange (.inr h))))
    · exact .inr (.inr (.inr (.inl (tickOfByte_of_no_code h))))
    · exact .inr (.inr (.inr (.inr (onOffOfByte_of_no_code h))))
  · have hout : bindInRange base { base := base, blocks := blocks.toNat, high := high.toNat } = false := by
      rw [← Bool.not_eq_true, bindInRange_iff]
      omega
    exact next_takeCommand_refused hp 0x04 (decideBindRing_of_outOfRange hs hout)
  · exact next_takeCommand_refused hp 0x04 (decideBindRing_of_overlap hs hr ho)
  · exact next_takeCommand_refused hp 0x04 (decideBindRing_of_placed hs hr hw ho hplaced)
  · exact next_takeCommand_refused hp 0x06 (decideArm_of_exhausted hs hb hl)
  · exact next_takeCommand_refused hp 0x07 (decideClose_of_closing hs hc)
  · exact next_takeCommand_refused hp 0x07 (decideClose_of_exhausted hs hc hl)
  · exact next_takeCommand_refused hp 0x09 (decideRewind_of_exhausted g hs hl)
  · exact next_takeCommand_refused hp 0x09 (decideRewind_of_noTarget hs hl ht)
  · exact next_takeCommand_refused hp 0x0E (if_pos hpage)

/-! ### The response of a taken command (R144, R148) -/

/-- A command with a code is taken with that code as its echo. -/
theorem exec_of_code {c : Instr} {code : Byte} (hw : c.wellFormed = true) (hc : c.code = some code) (s : State) :
    ∃ decision, exec c s = .next (takeCommand code decision s) := by
  cases c with
  | status | define | configure | bindRing | setClass | delete | arm | close | release | rewind | pause | resume | disarm
  | query | readEvent | setPort =>
    obtain rfl := Option.some.inj hc
    exact ⟨_, rfl⟩
  | unknownCommand received =>
    obtain rfl := Option.some.inj hc
    have hunknown : isCommandCode received = false := by simpa [Instr.wellFormed] using hw
    exact ⟨decideUnknown, congrArg Host.Outcome.next (if_neg (by simp [hunknown]))⟩
  | _ => exact nomatch hc

/-- Settles O22, by the frame that every taken command leaves. -/
theorem everyTakenCommandLeavesItsResponse : Obligations.EveryTakenCommandLeavesItsResponse := by
  intro c code s hp hw hc
  obtain ⟨decision, hexec⟩ := exec_of_code hw hc s
  rw [takeCommand_on hp] at hexec
  exact ⟨_, hexec, rfl, responseFrame_length _ _ _ _, responseFrame_echo _ _ _ _, responseFrame_number _ _ _ _,
    responseFrame_check _ _ _ _⟩

/-! ### What the management commands leave alone -/

/-- What no management command changes, and what only some of them change, of the windows only the one named. -/
structure CommandFrame (c : Instr) (s t : State) : Prop where
  rest : t = { s with
    windows := t.windows, events := t.events, serial := t.serial, lost := t.lost, reexamDue := t.reexamDue
    cmdNumber := t.cmdNumber, held := t.held, filter := t.filter, park := t.park, rewindOffer := t.rewindOffer
    rewindLast := t.rewindLast, timeout := t.timeout, attnEnable := t.attnEnable }
  windows : ∀ w : WindowIdx, windowOperand c ≠ some (windowByte w) → (∀ u g, c ≠ .rewind u g) → (∀ u, c ≠ .resume u) →
    t.window w = s.window w
  records : (∀ w b z, c ≠ .define w b z) → (∀ w, c ≠ .delete w) → t.filter = s.filter ∧ t.park = s.park
  source : (∀ w g, c ≠ .rewind w g) → (∀ w, c ≠ .resume w) → t.rewindOffer = s.rewindOffer ∧ t.rewindLast = s.rewindLast
  settings : (∀ n a, c ≠ .setPort n a) → t.timeout = s.timeout ∧ t.attnEnable = s.attnEnable

theorem CommandFrame.refl (c : Instr) (s : State) : CommandFrame c s s :=
  ⟨rfl, fun _ _ _ _ => rfl, fun _ _ => ⟨rfl, rfl⟩, fun _ _ => ⟨rfl, rfl⟩, fun _ => ⟨rfl, rfl⟩⟩

theorem CommandFrame.taken {c : Instr} {s t : State} (h : CommandFrame c s t) (status : Status) (echo : Byte)
    (data : List Byte) : CommandFrame c s (taken status echo data s t) := by
  refine ⟨?_, h.windows, h.records, h.source, h.settings⟩
  conv_lhs => rw [h.rest]
  rfl

/-- What stays in the window named is within the frame. -/
theorem StaysIn.commandFrame {c : Instr} {w : WindowIdx} {s t : State} (hw : windowOperand c = some (windowByte w))
    (h : StaysIn w s t) : CommandFrame c s t := by
  refine ⟨?_, fun u hu _ _ => h.others u fun e => hu (e ▸ hw), fun _ _ => ?_, fun _ _ => ?_, fun _ => ?_⟩
  all_goals rw [h.rest]
  · exact ⟨rfl, rfl⟩
  · exact ⟨rfl, rfl⟩
  · exact ⟨rfl, rfl⟩

theorem windowByte_of_windowOfByte {b : Byte} {w : WindowIdx} (h : windowOfByte b = some w) : windowByte w = b := by
  unfold windowOfByte at h
  split at h
  · rw [← Option.some.inj h]
    simp [windowByte]
  · exact nomatch h

theorem commandFrame_takeCommand {c : Instr} {s : State} {decision : State → Reply × State} (echo : Byte)
    (h : CommandFrame c s (decision s).2) : CommandFrame c s (takeCommand echo decision s) := by
  unfold takeCommand unlessPor
  split
  · exact .refl c s
  · exact h.taken _ _ _

theorem commandFrame_onWindow {c : Instr} {b : Byte} {s : State} {f : WindowIdx → State → Reply × State}
    (h : ∀ w, b = windowByte w → CommandFrame c s (f w s).2) : CommandFrame c s (onWindow b f s).2 := by
  unfold onWindow
  split
  · exact .refl c s
  · rename_i w hw
    exact h w (windowByte_of_windowOfByte hw).symm

/-- A command that names a window, decided within that window. -/
theorem commandFrame_of_staysIn {c : Instr} {b : Byte} {s : State} {f : WindowIdx → State → Reply × State} (echo : Byte)
    (hc : windowOperand c = some b) (h : ∀ w, StaysIn w s (f w s).2) :
    CommandFrame c s (takeCommand echo (onWindow b f) s) :=
  commandFrame_takeCommand echo (commandFrame_onWindow fun w hb => (h w).commandFrame (hb ▸ hc))

section
variable (w : WindowIdx) (s : State)

theorem staysIn_decideConfigure (fence policy depth : Byte) (reload : BitVec 16) (tick autoClose : Byte) :
    StaysIn w s (decideConfigure fence policy depth reload tick autoClose w s).2 := by
  unfold decideConfigure
  split
  · exact .refl w s
  · split
    · exact .refl w s
    · exact staysIn_setWindow w s _

theorem staysIn_decideBindRing (base : BitVec 40) (blocks : BitVec 24) (high : BitVec 32) :
    StaysIn w s (decideBindRing base blocks high w s).2 := by
  unfold decideBindRing
  simp only
  split
  · exact .refl w s
  · split
    · exact .refl w s
    · split
      · exact .refl w s
      · split
        · exact .refl w s
        · exact staysIn_setWindow w s _

theorem staysIn_decideSetClass (requester cls : Byte) : StaysIn w s (decideSetClass requester cls w s).2 := by
  unfold decideSetClass
  split
  · exact .refl w s
  · split
    · exact staysIn_setWindow w s _
    · exact .refl w s

theorem staysIn_decideArm : StaysIn w s (decideArm w s).2 := by
  unfold decideArm
  simp only
  split
  · exact .refl w s
  · split
    · exact .refl w s
    · exact (staysIn_setWindow w s _).trans (staysIn_raiseTrigger w _)

theorem staysIn_decideClose : StaysIn w s (decideClose w s).2 := by
  unfold decideClose
  simp only
  split
  · exact .refl w s
  · split
    · exact .refl w s
    · split
      · exact .refl w s
      · exact staysIn_closeGeneration w _ s

theorem staysIn_decideRelease : StaysIn w s (decideRelease w s).2 := by
  unfold decideRelease
  simp only
  split
  · exact .refl w s
  · split
    · exact .refl w s
    · exact .refl w s
    · split
      · exact .refl w s
      · exact staysIn_releaseOldest w _ s

theorem staysIn_decidePause : StaysIn w s (decidePause w s).2 := by
  unfold decidePause
  simp only
  split
  · exact .refl w s
  · split
    · exact .refl w s
    · exact staysIn_modContext w _ s

theorem staysIn_decideDisarm : StaysIn w s (decideDisarm w s).2 := by
  have hrun : StaysIn w s (if (s.slotsOf w).length = 0 then
      ({ status := .done, data := [flagByte (s.window w).rewind.isSome] ++ opt4 ((s.window w).rewind.map (·.restored)) ++ [0] },
        disarmCompletion w (s.setWindow w (s.window w).quietStopped))
      else ({ status := .accepted, data := [0, 0, 0, 0, 0, BitVec.ofNat 8 (s.slotsOf w).length] },
        raiseTrigger ((s.setWindow w (s.window w).quietStopped).modWindow w (fun u => { u with state := .disarming }))) :
      Reply × State).2 := by
    split
    · exact (staysIn_setWindow w s _).trans (staysIn_disarmCompletion w _)
    · exact ((staysIn_setWindow w s _).trans (staysIn_modWindow w _ _)).trans (staysIn_raiseTrigger w _)
  unfold decideDisarm
  simp only
  split
  · exact .refl w s
  · exact .refl w s
  · exact .refl w s
  · exact .refl w s
  all_goals exact hrun

theorem staysIn_decideQuery (page : Byte) : StaysIn w s (decideQuery page w s).2 := by
  unfold decideQuery
  split <;> exact .refl w s

end

/-- A change of a window's record with the filter and the park list, as DEFINE and DELETE make it. -/
theorem commandFrame_of_unplaced {c : Instr} {w : WindowIdx} (f : Window → Window) {s : State}
    (hw : windowOperand c = some (windowByte w)) (hc : (∃ u b z, c = .define u b z) ∨ ∃ u, c = .delete u) :
    CommandFrame c s (raiseTrigger (unplaceParked w (filterRemove w (s.modWindow w f)))) := by
  refine ⟨rfl, fun u hu _ _ => window_modWindow_ne s f fun e => hu (e ▸ hw), fun hd hx => ?_, fun _ _ => ⟨rfl, rfl⟩,
    fun _ => ⟨rfl, rfl⟩⟩
  rcases hc with ⟨u, b, z, rfl⟩ | ⟨u, rfl⟩
  · exact absurd rfl (hd u b z)
  · exact absurd rfl (hx u)

/-- From `s` to `t` nothing has changed but what a rewind command can change. -/
def RewindRest (s t : State) : Prop :=
  t = { s with
    windows := t.windows, events := t.events, serial := t.serial, lost := t.lost, reexamDue := t.reexamDue
    rewindOffer := t.rewindOffer, rewindLast := t.rewindLast }

theorem RewindRest.refl (s : State) : RewindRest s s := rfl

theorem RewindRest.trans {s t u : State} (h : RewindRest s t) (k : RewindRest t u) : RewindRest s u := by
  unfold RewindRest at *
  rw [k, h]

theorem StaysIn.rewindRest {w : WindowIdx} {s t : State} (h : StaysIn w s t) : RewindRest s t := by
  unfold RewindRest
  rw [h.rest]

theorem rewindRest_grantRewindSource (s : State) : RewindRest s (grantRewindSource s) := by
  unfold grantRewindSource
  split
  · exact .refl s
  · split
    · exact .refl s
    · unfold offerRewind
      simp only
      split
      · exact .refl s
      · exact rfl

theorem rewindRest_endDrain (w : WindowIdx) (s : State) : RewindRest s (endDrain w s) := by
  unfold endDrain
  simp only
  split
  · exact .refl s
  · split
    · exact (staysIn_modContext w _ s).rewindRest.trans (staysIn_pauseTakesEffect w _).rewindRest
    · split
      · exact (staysIn_modContext w _ s).rewindRest.trans (staysIn_completeRewind w _).rewindRest
      · exact ((staysIn_modContext w _ s).rewindRest.trans
          ((staysIn_modContext w _ _).trans (staysIn_modContext w _ _)).rewindRest).trans (rewindRest_grantRewindSource _)

theorem rewindRest_resumeRewind (w : WindowIdx) (s : State) : RewindRest s (resumeRewind w s) := by
  have hfirst : RewindRest s (raiseTrigger (s.modWindow w (fun v =>
      { v with state := .rewinding, rewind := v.rewind.map (fun c => { c with phase := .walk }) }))) := rfl
  unfold resumeRewind
  simp only
  refine hfirst.trans ?_
  split
  · exact .refl _
  · split
    · exact (staysIn_modContext w _ _).rewindRest.trans (rewindRest_grantRewindSource _)
    · split
      · exact (staysIn_completeRewind w _).rewindRest
      · exact (staysIn_modContext w _ _).rewindRest.trans (rewindRest_grantRewindSource _)

theorem rewindRest_decideRewind (target : BitVec 32) (w : WindowIdx) (s : State) :
    RewindRest s (decideRewind target w s).2 := by
  unfold decideRewind
  simp only
  split
  · exact .refl s
  · split
    · exact .refl s
    · split
      · exact .refl s
      · unfold rewindEffect
        simp only
        split
        · exact (show RewindRest s (raiseTrigger _) from rfl).trans (rewindRest_endDrain w _)
        · exact rfl

theorem rewindRest_decideResume (w : WindowIdx) (s : State) : RewindRest s (decideResume w s).2 := by
  unfold decideResume
  simp only
  split
  · exact .refl s
  · exact rewindRest_resumeRewind w s

theorem RewindRest.commandFrame {c : Instr} {s t : State} (h : RewindRest s t)
    (hc : (∃ u g, c = .rewind u g) ∨ ∃ u, c = .resume u) : CommandFrame c s t := by
  have hno : (∀ u g, c ≠ .rewind u g) → (∀ u, c ≠ .resume u) → False := fun h1 h2 => by
    rcases hc with ⟨u, g, rfl⟩ | ⟨u, rfl⟩
    · exact h1 u g rfl
    · exact h2 u rfl
  refine ⟨?_, fun _ _ h1 h2 => (hno h1 h2).elim, fun _ _ => ?_, fun h1 h2 => (hno h1 h2).elim, fun _ => ?_⟩
  all_goals rw [show t = _ from h]
  · exact ⟨rfl, rfl⟩
  · exact ⟨rfl, rfl⟩

theorem commandFrame_setPort (timeout : BitVec 16) (attention : Byte) (s : State) :
    CommandFrame (.setPort timeout attention) s (decideSetPort timeout attention s).2 := by
  unfold decideSetPort
  split
  · exact .refl _ s
  · split
    · exact .refl _ s
    · exact ⟨rfl, fun _ _ _ _ => rfl, fun _ _ => ⟨rfl, rfl⟩, fun _ _ => ⟨rfl, rfl⟩, fun h => absurd rfl (h _ _)⟩

theorem commandFrame_readEvent (s : State) : CommandFrame .readEvent s (decideReadEvent s).2 := by
  unfold decideReadEvent
  split <;> exact ⟨rfl, fun _ _ _ _ => rfl, fun _ _ => ⟨rfl, rfl⟩, fun _ _ => ⟨rfl, rfl⟩, fun _ => ⟨rfl, rfl⟩⟩

theorem commandFrame_define (b : Byte) (base size : BitVec 40) {w : WindowIdx} (s : State) (hb : b = windowByte w) :
    CommandFrame (.define b base size) s (decideDefine base size w s).2 := by
  unfold decideDefine
  split
  · exact .refl _ s
  · split
    · exact .refl _ s
    · split
      · exact .refl _ s
      · exact commandFrame_of_unplaced _ (congrArg some hb) (.inl ⟨b, base, size, rfl⟩)

theorem commandFrame_delete (b : Byte) {w : WindowIdx} (s : State) (hb : b = windowByte w) :
    CommandFrame (.delete b) s (decideDelete w s).2 := by
  unfold decideDelete
  split
  · exact .refl _ s
  · exact commandFrame_of_unplaced _ (congrArg some hb) (.inr ⟨b, rfl⟩)

/-- Every management command keeps its frame. -/
theorem exec_commandFrame {c : Instr} {s t : State} (hc : c.code ≠ none) (h : exec c s = .next t) : CommandFrame c s t := by
  cases c
  case frameError | systemRequest | systemResponseDelivery | arbiterGrant | memoryRequestIssue | memoryResponse
    | responseTimeout | quietTimerExpiry | reExamination | drainEnd | systemPortReset | powerOnReset
    | systemPortResetRelease | powerOnResetRelease => exact absurd rfl hc
  all_goals obtain rfl := Host.Outcome.next.inj h
  case status => exact commandFrame_takeCommand 0x01 (.refl _ s)
  case define b base size =>
    exact commandFrame_takeCommand 0x02 (commandFrame_onWindow fun w => commandFrame_define b base size s)
  case configure => exact commandFrame_of_staysIn 0x03 rfl fun w => staysIn_decideConfigure w s _ _ _ _ _ _
  case bindRing => exact commandFrame_of_staysIn 0x04 rfl fun w => staysIn_decideBindRing w s _ _ _
  case setClass => exact commandFrame_of_staysIn 0x05 rfl fun w => staysIn_decideSetClass w s _ _
  case arm => exact commandFrame_of_staysIn 0x06 rfl fun w => staysIn_decideArm w s
  case close => exact commandFrame_of_staysIn 0x07 rfl fun w => staysIn_decideClose w s
  case release => exact commandFrame_of_staysIn 0x08 rfl fun w => staysIn_decideRelease w s
  case rewind b target =>
    exact commandFrame_takeCommand 0x09 (commandFrame_onWindow fun w _ =>
      (rewindRest_decideRewind target w s).commandFrame (.inl ⟨b, target, rfl⟩))
  case pause => exact commandFrame_of_staysIn 0x0A rfl fun w => staysIn_decidePause w s
  case resume b =>
    exact commandFrame_takeCommand 0x0B (commandFrame_onWindow fun w _ =>
      (rewindRest_decideResume w s).commandFrame (.inr ⟨b, rfl⟩))
  case disarm => exact commandFrame_of_staysIn 0x0C rfl fun w => staysIn_decideDisarm w s
  case delete b => exact commandFrame_takeCommand 0x0D (commandFrame_onWindow fun w => commandFrame_delete b s)
  case query => exact commandFrame_of_staysIn 0x0E rfl fun w => staysIn_decideQuery w s _
  case readEvent => exact commandFrame_takeCommand 0x0F (commandFrame_readEvent s)
  case setPort => exact commandFrame_takeCommand 0x10 (commandFrame_setPort _ _ s)
  case unknownCommand code =>
    split
    · exact .refl _ s
    · exact commandFrame_takeCommand code (.refl _ s)

/-- Settles O23, by the frame of each command. -/
theorem managementCommandsLeaveThePortsAlone : Obligations.ManagementCommandsLeaveThePortsAlone := by
  intro c s t hc h
  obtain ⟨hrest, hwindows, hrecords, hsource, hsettings⟩ := exec_commandFrame hc h
  exact ⟨hrest, hwindows, hrecords, hsource, hsettings⟩

end Sys2Proof.Machine
end

section
/-! Command frames decode to the command they were made from (R144, R146, R185), and what a whole transfer on the wires does (R142 to
R145, R147). -/

namespace Sys2Proof

/-! ### Frames (R144, R146, R185) -/

theorem ofNat_leValue_leBytes {n : Nat} (k : Nat) (x : BitVec n) (h : 2 ^ n ≤ 256 ^ k) :
    BitVec.ofNat n (leValue (leBytes k x.toNat)) = x := by
  rw [leValue_leBytes, Nat.mod_eq_of_lt (x.isLt.trans_le h), BitVec.ofNat_toNat, BitVec.setWidth_eq]

/-- The frame of a command with a code: its head and the check of the head. -/
theorem frameBits_eq {c : Instr} {code : Byte} (h : c.code = some code) :
    c.frameBits = some (((code :: padTo 14 c.parameters) ++ [crc8 (code :: padTo 14 c.parameters)]).flatMap byteBits) := by
  simp only [Instr.frameBits, Instr.frame, Instr.frameHead, h, Option.map_some]

theorem length_frame (code check : Byte) (parameters : List Byte) :
    ((code :: padTo 14 parameters) ++ [check]).length = 16 := by
  simp [padTo_length]

/-- The bytes of a frame's bits are the frame. -/
theorem frameBytes_flatMap {f : List Byte} (h : f.length = 16) : frameBytes (f.flatMap byteBits) = f := by
  rw [frameBytes, ← h, bitsBytes_flatMap]

/-- A frame that ends in the check of its head is good. -/
theorem frameIsGood_flatMap {head : List Byte} (h : head.length = 15) :
    frameIsGood ((head ++ [crc8 head]).flatMap byteBits) = true := by
  have hlength : (head ++ [crc8 head]).length = 16 := by simp [h]
  have htake : (head ++ [crc8 head]).take 15 = head := List.take_left' h
  have hlast : (head ++ [crc8 head]).getD 15 0 = crc8 head := by simp [List.getD, ← h]
  rw [frameIsGood, frameBytes_flatMap hlength, htake, hlast, byteBits_flatMap_length, hlength]
  simp

/-- A code that is none of the sixteen decodes to UNKNOWN_COMMAND (R150). -/
theorem commandOfFrame_of_unknown {code : Byte} (h : isCommandCode code = false) (rest : List Byte) :
    commandOfFrame (code :: rest) = .unknownCommand code := by
  have hrange : code.toNat = 0 ∨ 16 < code.toNat := (Machine.isCommandCode_eq_false_iff code).mp h
  unfold commandOfFrame
  simp only [List.getD_cons_zero]
  split
  case h_17 => rfl
  all_goals omega

/-- The head of a command's frame, followed by its check, decodes to the command. -/
theorem commandOfFrame_frame {c : Instr} {code : Byte} (hw : c.wellFormed = true) (hc : c.code = some code) (check : Byte) :
    commandOfFrame ((code :: padTo 14 c.parameters) ++ [check]) = c := by
  cases c with
  | status | setClass | delete | arm | close | release | pause | resume | disarm | query | readEvent =>
    obtain rfl := Option.some.inj hc
    rfl
  | define window base size =>
    obtain rfl := Option.some.inj hc
    show Instr.define window (BitVec.ofNat 40 (leValue (leBytes 5 base.toNat)))
      (BitVec.ofNat 40 (leValue (leBytes 5 size.toNat))) = _
    rw [ofNat_leValue_leBytes 5 base (by decide), ofNat_leValue_leBytes 5 size (by decide)]
  | configure window fence policy depth reload tick autoClose =>
    obtain rfl := Option.some.inj hc
    show Instr.configure window fence policy depth (BitVec.ofNat 16 (leValue (leBytes 2 reload.toNat))) tick autoClose = _
    rw [ofNat_leValue_leBytes 2 reload (by decide)]
  | bindRing window base blocks high =>
    obtain rfl := Option.some.inj hc
    show Instr.bindRing window (BitVec.ofNat 40 (leValue (leBytes 5 base.toNat)))
      (BitVec.ofNat 24 (leValue (leBytes 3 blocks.toNat))) (BitVec.ofNat 32 (leValue (leBytes 4 high.toNat))) = _
    rw [ofNat_leValue_leBytes 5 base (by decide), ofNat_leValue_leBytes 3 blocks (by decide),
      ofNat_leValue_leBytes 4 high (by decide)]
  | rewind window target =>
    obtain rfl := Option.some.inj hc
    show Instr.rewind window (BitVec.ofNat 32 (leValue (leBytes 4 target.toNat))) = _
    rw [ofNat_leValue_leBytes 4 target (by decide)]
  | setPort timeout attention =>
    obtain rfl := Option.some.inj hc
    show Instr.setPort (BitVec.ofNat 16 (leValue (leBytes 2 timeout.toNat))) attention = _
    rw [ofNat_leValue_leBytes 2 timeout (by decide)]
  | unknownCommand received =>
    obtain rfl := Option.some.inj hc
    exact commandOfFrame_of_unknown (by simpa [Instr.wellFormed] using hw) _
  | _ => exact nomatch hc

end Sys2Proof

namespace Sys2Proof.Machine

open Sys2Proof

/-- Settles O24, by the bytes of the frame. -/
theorem framesDecodeToTheirCommand : Obligations.FramesDecodeToTheirCommand := by
  intro c bits hw hbits
  cases hc : c.code with
  | none => simp [Instr.frameBits, Instr.frame, Instr.frameHead, hc] at hbits
  | some code =>
    rw [frameBits_eq hc] at hbits
    obtain rfl := Option.some.inj hbits
    have hhead : (code :: padTo 14 c.parameters).length = 15 := by simp [padTo_length]
    have hgood := frameIsGood_flatMap hhead
    refine ⟨?_, hgood, ?_⟩
    · rw [byteBits_flatMap_length, length_frame]
    · rw [commandOfTransfer, if_pos hgood, frameBytes_flatMap (length_frame _ _ _), commandOfFrame_frame hw hc]

/-! ### Transfers (R142 to R145, R147) -/

theorem spiListens_of {s : State} (hp : s.por = false) (hw : s.waitCsRise = false) : spiListens s = true := by
  simp [spiListens, hp, hw]

theorem csFall_of_listens {s : State} (hl : spiListens s = true) :
    csFall s = { s with transfer := .lead [], frameBuffer := [] } := if_pos hl

/-- The bits of a lead byte that is not complete are collected. -/
theorem foldl_sckRise_lead {s : State} (hl : spiListens s = true) (l bits : List Bool)
    (ht : s.transfer = .lead bits) (h : (bits ++ l).length < 8) :
    l.foldl (fun s b => sckRise b s) s = { s with transfer := .lead (bits ++ l) } := by
  induction l generalizing s bits with
  | nil => simp [← ht]
  | cons b l ih =>
    have hshort : (bits ++ [b]).length < 8 := by
      simp only [List.length_append, List.length_cons, List.length_nil] at h ⊢
      omega
    have hone : sckRise b s = { s with transfer := .lead (bits ++ [b]) } := by
      simp only [sckRise, hl, if_true, ht, hshort]
    have hrest := ih (s := { s with transfer := .lead (bits ++ [b]) }) hl (bits ++ [b]) rfl (by simpa using h)
    rw [List.foldl_cons, hone, hrest, List.append_assoc, List.singleton_append]

/-- A complete lead byte makes of the transfer what R143 says. -/
theorem foldl_sckRise_byteBits {s : State} (hl : spiListens s = true) (ht : s.transfer = .lead []) (lead : Byte) :
    (byteBits lead).foldl (fun s b => sckRise b s) s = { s with transfer := transferOfLead lead } := by
  obtain ⟨first, last, hsplit, hlength⟩ : ∃ first last, byteBits lead = first ++ [last] ∧ first.length = 7 :=
    ⟨(byteBits lead).take 7, (byteBits lead).getD 7 false, rfl, rfl⟩
  have hfirst := foldl_sckRise_lead hl first [] ht (by simp [hlength])
  have hlast : ∀ t : State, spiListens t = true → t.transfer = .lead first →
      sckRise last t = { t with transfer := transferOfLead lead } := fun t htl htt => by
    have hbits : bitsByte (first ++ [last]) = lead := by rw [← hsplit, bitsByte_byteBits]
    have hfull : ¬(first ++ [last]).length < 8 := by simp [hlength]
    simp only [sckRise, htl, if_true, htt, if_neg hfull, hbits]
  have hdone := hlast { s with transfer := .lead first } hl rfl
  rw [hsplit, List.foldl_append, hfirst, List.nil_append, List.foldl_cons, List.foldl_nil, hdone]

theorem foldl_sckRise_command {s : State} (hl : spiListens s = true) (ht : s.transfer = .command) (l : List Bool) :
    l.foldl (fun s b => sckRise b s) s = { s with frameBuffer := s.frameBuffer ++ l } := by
  induction l generalizing s with
  | nil => simp
  | cons b l ih =>
    have hone : sckRise b s = { s with frameBuffer := s.frameBuffer ++ [b] } := by
      simp only [sckRise, hl, if_true, ht]
    have hrest := ih (s := { s with frameBuffer := s.frameBuffer ++ [b] }) hl ht
    rw [List.foldl_cons, hone, hrest, List.append_assoc, List.singleton_append]

theorem foldl_sckRise_response {s : State} {n : Nat} (hl : spiListens s = true) (ht : s.transfer = .response n)
    (l : List Bool) : l.foldl (fun s b => sckRise b s) s = { s with transfer := .response (n + l.length) } := by
  induction l generalizing s n with
  | nil => simp [← ht]
  | cons b l ih =>
    have hone : sckRise b s = { s with transfer := .response (n + 1) } := by
      simp only [sckRise, hl, if_true, ht]
    have hrest := ih (s := { s with transfer := .response (n + 1) }) hl rfl
    rw [List.foldl_cons, hone, hrest, List.length_cons, Nat.add_assoc, Nat.add_comm 1]

/-- Bits that the port does not look at change nothing. -/
theorem foldl_sckRise_unseen {s : State} (h : ∀ b, sckRise b s = s) (l : List Bool) :
    l.foldl (fun s b => sckRise b s) s = s := by
  induction l with
  | nil => rfl
  | cons b l ih => rw [List.foldl_cons, h, ih]

theorem sckRise_of_ignored {s : State} (hl : spiListens s = true) (ht : s.transfer = .ignored) (b : Bool) :
    sckRise b s = s := by
  simp only [sckRise, hl, if_true, ht]

theorem csRise_of_command {s : State} (hp : s.por = false) (ht : s.transfer = .command) :
    csRise s = { s with
      transfer := .idle, waitCsRise := false, frameBuffer := []
      pending := s.pending ++ [commandOfTransfer s.frameBuffer] } := by
  simp only [csRise, hp, ht]
  rfl

/-- The end of a transfer that is no COMMAND. -/
theorem csRise_of_other {s : State} (hp : s.por = false) (ht : s.transfer ≠ .command) :
    csRise s = { s with transfer := .idle, waitCsRise := false, frameBuffer := [] } := by
  cases h : s.transfer with
  | command => exact absurd h ht
  | idle | lead | response | ignored =>
    simp only [csRise, hp, h]
    rfl

section
variable {s : State} (hp : s.por = false) (hw : s.waitCsRise = false)
include hp hw

/-- The state once a lead byte is complete. -/
theorem foldl_sckRise_after_lead (lead : Byte) (l : List Bool) :
    (byteBits lead ++ l).foldl (fun s b => sckRise b s) (csFall s) =
      l.foldl (fun s b => sckRise b s) { s with transfer := transferOfLead lead, frameBuffer := [] } := by
  have hl := spiListens_of hp hw
  rw [csFall_of_listens hl, List.foldl_append,
    foldl_sckRise_byteBits (s := { s with transfer := .lead [], frameBuffer := [] }) hl rfl]

theorem spiTransfer_command (bits : List Bool) :
    spiTransfer (byteBits 0x3C ++ bits) s =
      { s with transfer := .idle, frameBuffer := [], pending := s.pending ++ [commandOfTransfer bits] } := by
  have hl := spiListens_of hp hw
  have hbits := foldl_sckRise_command (s := { s with transfer := .command, frameBuffer := [] }) hl rfl bits
  rw [spiTransfer, foldl_sckRise_after_lead hp hw, show transferOfLead 0x3C = .command from rfl, hbits]
  refine (csRise_of_command (by exact hp) (by rfl)).trans ?_
  rw [← hw]
  rfl

/-- A response read, up to a bit: the count of bits shifted out. -/
theorem foldl_sckRise_read (mosi : List Bool) :
    (byteBits 0xC3 ++ mosi).foldl (fun u b => sckRise b u) (csFall s) =
      { s with transfer := .response mosi.length, frameBuffer := [] } := by
  have hl := spiListens_of hp hw
  have hbits := foldl_sckRise_response (s := { s with transfer := .response 0, frameBuffer := [] }) (n := 0) hl rfl mosi
  rw [foldl_sckRise_after_lead hp hw, show transferOfLead 0xC3 = .response 0 from rfl, hbits, Nat.zero_add]

theorem csRise_of_read (t : Transfer) (ht : t ≠ .command) :
    csRise { s with transfer := t, frameBuffer := [] } = { s with transfer := .idle, frameBuffer := [] } := by
  rw [csRise_of_other (s := { s with transfer := t, frameBuffer := [] }) hp ht, ← hw]

theorem spiTransfer_other {lead : Byte} (hlead : lead ≠ 0x3C) (bits : List Bool) :
    spiTransfer (byteBits lead ++ bits) s = { s with transfer := .idle, frameBuffer := [] } := by
  have hl := spiListens_of hp hw
  by_cases hread : lead = 0xC3
  · subst hread
    rw [spiTransfer, foldl_sckRise_read hp hw, csRise_of_read hp hw _ (by simp)]
  · have hignored : transferOfLead lead = .ignored := (if_neg hlead).trans (if_neg hread)
    have hbits := foldl_sckRise_unseen
      (sckRise_of_ignored (s := { s with transfer := .ignored, frameBuffer := [] }) hl rfl) bits
    rw [spiTransfer, foldl_sckRise_after_lead hp hw, hignored, hbits, csRise_of_read hp hw _ (by simp)]

theorem spiTransfer_short {bits : List Bool} (h : bits.length < 8) :
    spiTransfer bits s = { s with transfer := .idle, frameBuffer := [] } := by
  have hl := spiListens_of hp hw
  have hbits := foldl_sckRise_lead (s := { s with transfer := .lead [], frameBuffer := [] }) hl bits [] rfl h
  rw [spiTransfer, csFall_of_listens hl, hbits, csRise_of_read hp hw _ (by simp)]

end

/-- A transfer that begins before CS_N has risen after a release of POR_N is not looked at (R142). -/
theorem spiTransfer_unseen {s : State} (hp : s.por = false) (hw : s.waitCsRise = true) (ht : s.transfer = .idle)
    (bits : List Bool) : spiTransfer bits s = { s with frameBuffer := [], waitCsRise := false } := by
  have hl : spiListens s = false := by simp [spiListens, hw]
  have hfall : csFall s = s := if_neg (by simp [hl])
  have hbits := foldl_sckRise_unseen (s := s) (fun b => if_neg (by simp [hl])) bits
  rw [spiTransfer, hfall, hbits, csRise_of_other hp (by simp [ht]), ← ht]

/-- Settles O25, by the state of the transfer after its lead byte. -/
theorem transfersDoWhatTheirLeadByteSays : Obligations.TransfersDoWhatTheirLeadByteSays := by
  refine ⟨fun bits s hp hw => spiTransfer_command hp hw bits,
    fun lead bits s hp hw hlead => spiTransfer_other hp hw hlead bits, fun bits s hp hw h => spiTransfer_short hp hw h,
    fun bits s hp hw ht => spiTransfer_unseen hp hw ht bits, fun mosi s t hp hw ht => ?_⟩
  rw [foldl_sckRise_read hp hw] at ht
  subst ht
  exact ⟨rfl, rfl, rfl, csRise_of_read hp hw _ (by simp)⟩

end Sys2Proof.Machine
end

section
/-! The layout of the QUERY pages (R166 to R169, R187, R188): each field's bytes are read off the page, and spell its value. -/

namespace Sys2Proof.Machine

open Sys2Proof

/-- The number in response bytes `first` to `last` of a page that begins at byte 5. -/
def pageField (page : List Byte) (first last : Nat) : Nat := leValue ((page.drop (first - 5)).take (last + 1 - first))

theorem leValue_replicate_zero (n : Nat) : leValue (List.replicate n 0) = 0 := by
  induction n with
  | zero => rfl
  | succ n ih =>
    show 0 + 256 * leValue (List.replicate n 0) = 0
    rw [ih]

/-- Fields that stand one behind the other, with the widths given. -/
structure Layout (page : List Byte) (fields : List (List Byte)) (widths : List Nat) : Prop where
  bytes : fields.flatten = page
  lengths : fields.map List.length = widths

theorem Layout.length {page : List Byte} {fields : List (List Byte)} {widths : List Nat} (h : Layout page fields widths) :
    page.length = widths.sum := by
  rw [← h.bytes, ← h.lengths, List.length_flatten]

/-- The bytes of `m` fields from field `k` on, behind those of the fields before them. -/
theorem Layout.range {page : List Byte} {fields : List (List Byte)} {widths : List Nat} (h : Layout page fields widths)
    (k m : Nat) {first last : Nat} (hfirst : (widths.take k).sum = first - 5)
    (hlast : ((widths.drop k).take m).sum = last + 1 - first) :
    pageField page first last = leValue ((fields.drop k).take m).flatten := by
  rw [pageField, ← hfirst, ← hlast, ← h.lengths, ← h.bytes, ← List.map_drop, List.drop_sum_flatten, List.take_sum_flatten]

/-- The bytes of field `k`. -/
theorem Layout.field {page : List Byte} {fields : List (List Byte)} {widths : List Nat} (h : Layout page fields widths)
    (k : Nat) {first last : Nat} {f : List Byte} {x : Nat} (hf : fields[k]? = some f)
    (hfirst : (widths.take k).sum = first - 5) (hlast : widths[k]? = some (last + 1 - first)) (hx : leValue f = x) :
    pageField page first last = x := by
  have hone : (fields.drop k).take 1 = [f] := by
    obtain ⟨hk, hget⟩ := List.getElem?_eq_some_iff.mp hf
    rw [List.drop_eq_getElem_cons hk, List.take_succ_cons, List.take_zero, hget]
  have hwidth : ((widths.drop k).take 1).sum = last + 1 - first := by
    obtain ⟨hk, hget⟩ := List.getElem?_eq_some_iff.mp hlast
    rw [List.drop_eq_getElem_cons hk, List.take_succ_cons, List.take_zero, hget, List.sum_singleton]
  rw [h.range k 1 hfirst hwidth, hone, List.flatten_singleton, hx]

/-- A byte that holds a count modulo 256. -/
theorem leValue_count (n : Nat) : leValue [BitVec.ofNat 8 n] = n % 2 ^ 8 :=
  (leValue_singleton _).trans (BitVec.toNat_ofNat _ _)

/-- A byte that holds a small number spells that number. -/
theorem toNat_ofNat_byte {n : Nat} (h : n < 256) : (BitVec.ofNat 8 n).toNat = n := toNat_ofNat_of_lt h

/-! ### Page 0 (R166, R187) -/

theorem quietTick_code_le (q : QuietTick) : q.code.toNat ≤ 3 := by cases q <;> decide

theorem windowFlags_toNat (v : Window) :
    (windowFlags v).toNat = v.fault.isSome.toNat + 2 * v.rewind.isSome.toNat + 4 * v.binding.isSome.toNat +
      8 * v.autoClose.toNat + 16 * v.quietTick.code.toNat := by
  have h1 := Bool.toNat_le v.fault.isSome
  have h2 := Bool.toNat_le v.rewind.isSome
  have h3 := Bool.toNat_le v.binding.isSome
  have h4 := Bool.toNat_le v.autoClose
  have h5 := quietTick_code_le v.quietTick
  rw [windowFlags, toNat_ofNat_byte] <;> simp only [flagBit_eq] <;> omega

theorem ringTimerFlags_toNat (v : Window) :
    (ringTimerFlags v).toNat = v.ring.full.toNat + 2 * v.ring.high.toNat + 4 * v.timer.running.toNat +
      8 * v.timer.lapsed.toNat + 16 * v.quietClosePending.toNat := by
  have h1 := Bool.toNat_le v.ring.full
  have h2 := Bool.toNat_le v.ring.high
  have h3 := Bool.toNat_le v.timer.running
  have h4 := Bool.toNat_le v.timer.lapsed
  have h5 := Bool.toNat_le v.quietClosePending
  rw [ringTimerFlags, toNat_ofNat_byte] <;> simp only [flagBit_eq] <;> omega

section
variable (s : State) (w : WindowIdx)

/-- The fields of page 0, in the order in which they stand. -/
def page0Fields : List (List Byte) :=
  let v := s.window w
  [[v.state.code], leBytes 5 v.base.toNat, leBytes 5 v.size, [windowFlags v], [v.fence.code], [v.policy.code],
    [BitVec.ofNat 8 v.depth], leBytes 2 v.quietReload, leBytes 5 ((v.binding.map (·.base.toNat)).getD 0),
    leBytes 3 ((v.binding.map (·.blocks)).getD 0), leBytes 4 v.highThreshold, leBytes 4 v.capacity, leBytes 4 v.lastGen,
    [BitVec.ofNat 8 v.gens.length], leBytes 4 v.ring.tail, leBytes 4 v.ring.head, leBytes 4 v.ring.occupancy,
    leBytes 4 v.ring.nextSeq.toNat, [ringTimerFlags v], leBytes 2 (if v.timer.running then v.timer.remaining else 0),
    [BitVec.ofNat 8 (s.slotsOf w).length]]

theorem page0_layout :
    Layout (page0 s w) (page0Fields s w) [1, 5, 5, 1, 1, 1, 1, 2, 5, 3, 4, 4, 4, 1, 4, 4, 4, 4, 1, 2, 1] :=
  ⟨by simp [page0Fields, page0], rfl⟩

/-- Bytes 5 to 21 of page 0. -/
theorem page0_settings :
    pageField (page0 s w) 5 5 = (s.window w).state.code.toNat ∧ pageField (page0 s w) 6 10 = (s.window w).base.toNat ∧
      pageField (page0 s w) 11 15 = (s.window w).size % 2 ^ 40 ∧
      pageField (page0 s w) 16 16 = (s.window w).fault.isSome.toNat + 2 * (s.window w).rewind.isSome.toNat +
        4 * (s.window w).binding.isSome.toNat + 8 * (s.window w).autoClose.toNat +
        16 * (s.window w).quietTick.code.toNat ∧
      pageField (page0 s w) 17 17 = (s.window w).fence.code.toNat ∧
      pageField (page0 s w) 18 18 = (s.window w).policy.code.toNat ∧
      pageField (page0 s w) 19 19 = (s.window w).depth % 2 ^ 8 ∧
      pageField (page0 s w) 20 21 = (s.window w).quietReload % 2 ^ 16 := by
  have h := page0_layout s w
  exact ⟨h.field 0 rfl rfl rfl (leValue_singleton _),
    h.field 1 rfl rfl rfl (leValue_leBytes_of_lt (n := 5) (s.window w).base.isLt), h.field 2 rfl rfl rfl (leValue_leBytes 5 _),
    h.field 3 rfl rfl rfl ((leValue_singleton _).trans (windowFlags_toNat _)), h.field 4 rfl rfl rfl (leValue_singleton _),
    h.field 5 rfl rfl rfl (leValue_singleton _), h.field 6 rfl rfl rfl (leValue_count _),
    h.field 7 rfl rfl rfl (leValue_leBytes 2 _)⟩

theorem page0_unbound (h : (s.window w).binding = none) : pageField (page0 s w) 22 37 = 0 := by
  refine ((page0_layout s w).range 8 4 rfl rfl).trans ?_
  have hfields : ((page0Fields s w).drop 8).take 4 =
      [leBytes 5 (((s.window w).binding.map (·.base.toNat)).getD 0),
        leBytes 3 (((s.window w).binding.map (·.blocks)).getD 0), leBytes 4 (s.window w).highThreshold,
        leBytes 4 (s.window w).capacity] := rfl
  rw [hfields, Window.highThreshold, Window.capacity, h]
  rfl

theorem page0_bound {b : RingBinding} (hb : (s.window w).binding = some b) :
    pageField (page0 s w) 22 26 = b.base.toNat ∧ pageField (page0 s w) 27 29 = b.blocks % 2 ^ 24 ∧
      pageField (page0 s w) 30 33 = b.high % 2 ^ 32 ∧ pageField (page0 s w) 34 37 = b.blocks * 512 % 2 ^ 32 := by
  have h := page0_layout s w
  refine ⟨h.field 8 rfl rfl rfl ?_, h.field 9 rfl rfl rfl ?_, h.field 10 rfl rfl rfl ?_, h.field 11 rfl rfl rfl ?_⟩
  · rw [hb]
    exact leValue_leBytes_of_lt (n := 5) b.base.isLt
  · rw [hb]
    exact leValue_leBytes 3 _
  · rw [Window.highThreshold, hb]
    exact leValue_leBytes 4 _
  · rw [Window.capacity, hb]
    exact leValue_leBytes 4 _

/-- Bytes 38 to 62 of page 0. -/
theorem page0_progress :
    pageField (page0 s w) 38 41 = (s.window w).lastGen % 2 ^ 32 ∧
      pageField (page0 s w) 42 42 = (s.window w).gens.length % 2 ^ 8 ∧
      pageField (page0 s w) 43 46 = (s.window w).ring.tail % 2 ^ 32 ∧
      pageField (page0 s w) 47 50 = (s.window w).ring.head % 2 ^ 32 ∧
      pageField (page0 s w) 51 54 = (s.window w).ring.occupancy % 2 ^ 32 ∧
      pageField (page0 s w) 55 58 = (s.window w).ring.nextSeq.toNat ∧
      pageField (page0 s w) 59 59 = (s.window w).ring.full.toNat + 2 * (s.window w).ring.high.toNat +
        4 * (s.window w).timer.running.toNat + 8 * (s.window w).timer.lapsed.toNat +
        16 * (s.window w).quietClosePending.toNat ∧
      pageField (page0 s w) 60 61 =
        (if (s.window w).timer.running = true then (s.window w).timer.remaining % 2 ^ 16 else 0) ∧
      pageField (page0 s w) 62 62 = (s.slotsOf w).length % 2 ^ 8 := by
  have h := page0_layout s w
  have hremaining : leValue (leBytes 2 (if (s.window w).timer.running then (s.window w).timer.remaining else 0)) =
      (if (s.window w).timer.running = true then (s.window w).timer.remaining % 2 ^ 16 else 0) := by
    rw [leValue_leBytes]
    split <;> rfl
  exact ⟨h.field 12 rfl rfl rfl (leValue_leBytes 4 _), h.field 13 rfl rfl rfl (leValue_count _),
    h.field 14 rfl rfl rfl (leValue_leBytes 4 _), h.field 15 rfl rfl rfl (leValue_leBytes 4 _),
    h.field 16 rfl rfl rfl (leValue_leBytes 4 _),
    h.field 17 rfl rfl rfl (leValue_leBytes_of_lt (n := 4) (s.window w).ring.nextSeq.isLt),
    h.field 18 rfl rfl rfl ((leValue_singleton _).trans (ringTimerFlags_toNat _)), h.field 19 rfl rfl rfl hremaining,
    h.field 20 rfl rfl rfl (leValue_count _)⟩

end

/-! ### Page 1 (R167, R188) -/

theorem length_entryBytes (e : GenEntry) : (entryBytes e).length = 11 := rfl

theorem length_flatMap_entryBytes (l : List GenEntry) : (l.flatMap entryBytes).length = 11 * l.length := by
  induction l with
  | nil => rfl
  | cons e l ih =>
    rw [List.flatMap_cons, List.length_append, length_entryBytes, ih, List.length_cons]
    omega

/-- Behind the entries before it, an entry's eleven bytes stand. -/
theorem drop_flatMap_entryBytes {l : List GenEntry} {k : Nat} {e : GenEntry} (h : l[k]? = some e) :
    ∃ rest, (l.flatMap entryBytes).drop (11 * k) = entryBytes e ++ rest := by
  obtain ⟨hk, hget⟩ := List.getElem?_eq_some_iff.mp h
  have hsplit : l.flatMap entryBytes = (l.take k).flatMap entryBytes ++ (entryBytes e ++ (l.drop (k + 1)).flatMap entryBytes) := by
    rw [← List.flatMap_cons, ← List.flatMap_append, ← hget, List.cons_getElem_drop_succ, List.take_append_drop]
  have hlength : ((l.take k).flatMap entryBytes).length = 11 * k := by
    rw [length_flatMap_entryBytes, List.length_take, Nat.min_eq_left (Nat.le_of_lt hk)]
  exact ⟨_, hsplit ▸ List.drop_left' hlength⟩

/-- A field of an entry of page 1: `width` bytes from byte `offset` of the entry. -/
theorem page1_field {v : Window} {k : Nat} {e : GenEntry} (h : v.gens[k]? = some e) {first last offset width : Nat}
    (hfirst : first = 6 + 11 * k + offset) (hlast : last + 1 = first + width) (hinside : offset + width ≤ 11) :
    pageField (page1 v) first last = leValue (((entryBytes e).drop offset).take width) := by
  obtain ⟨rest, hrest⟩ := drop_flatMap_entryBytes h
  have hfrom : first - 5 = 11 * k + offset + 1 := by omega
  have hwidth : last + 1 - first = width := by omega
  have hoffset : offset ≤ (entryBytes e).length := by rw [length_entryBytes]; omega
  have htake : width ≤ ((entryBytes e).drop offset).length := by rw [List.length_drop, length_entryBytes]; omega
  rw [pageField, page1, hfrom, hwidth, List.drop_succ_cons, ← List.drop_drop, hrest, List.drop_append_of_le_length hoffset,
    List.take_append_of_le_length htake]

theorem page1_beyond (v : Window) : pageField (page1 v) (6 + 11 * v.gens.length) 62 = 0 := by
  have hlength : (page1 v).length = 6 + 11 * v.gens.length - 5 := by
    rw [page1, List.length_cons, length_flatMap_entryBytes]
    omega
  rw [pageField, ← hlength, List.drop_length]
  simp [leValue]

theorem page1_entry {v : Window} {e : GenEntry} {k : Nat} (h : v.gens[k]? = some e) :
    pageField (page1 v) (6 + 11 * k) (9 + 11 * k) = e.number % 2 ^ 32 ∧
      pageField (page1 v) (10 + 11 * k) (10 + 11 * k) = e.state.code.toNat ∧
      (e.closeCause = none → pageField (page1 v) (11 + 11 * k) (11 + 11 * k) = 0) ∧
      (∀ cause, e.closeCause = some cause → pageField (page1 v) (11 + 11 * k) (11 + 11 * k) = cause.code.toNat) ∧
      pageField (page1 v) (12 + 11 * k) (15 + 11 * k) = e.recordCount % 2 ^ 32 ∧
      pageField (page1 v) (16 + 11 * k) (16 + 11 * k) = e.slotsPending % 2 ^ 8 := by
  have hcause : pageField (page1 v) (11 + 11 * k) (11 + 11 * k) = leValue (opt1 (e.closeCause.map CloseCause.code)) :=
    page1_field h (offset := 5) (width := 1) (by omega) (by omega) (by omega)
  refine ⟨(page1_field h (offset := 0) (width := 4) (by omega) (by omega) (by omega)).trans (leValue_leBytes 4 _),
    (page1_field h (offset := 4) (width := 1) (by omega) (by omega) (by omega)).trans (leValue_singleton _),
    fun hn => ?_, fun cause hc => ?_,
    (page1_field h (offset := 6) (width := 4) (by omega) (by omega) (by omega)).trans (leValue_leBytes 4 _),
    (page1_field h (offset := 10) (width := 1) (by omega) (by omega) (by omega)).trans
      ((leValue_singleton _).trans (BitVec.toNat_ofNat _ 8))⟩
  · rw [hcause, hn]
    rfl
  · rw [hcause, hc]
    rfl

/-! ### Page 2 (R168, R188) -/

/-- A byte of six flags, by their weights. -/
theorem toNat_flags (a b c d e f : Bool) :
    (BitVec.ofNat 8 (flagBit a 0 + flagBit b 1 + flagBit c 2 + flagBit d 3 + flagBit e 4 + flagBit f 5)).toNat =
      a.toNat + 2 * b.toNat + 4 * c.toNat + 8 * d.toNat + 16 * e.toNat + 32 * f.toNat := by
  have ha := Bool.toNat_le a
  have hb := Bool.toNat_le b
  have hc := Bool.toNat_le c
  have hd := Bool.toNat_le d
  have he := Bool.toNat_le e
  have hf := Bool.toNat_le f
  rw [toNat_ofNat_byte] <;> simp only [flagBit_eq] <;> omega

theorem contextFlags_of_context {v : Window} {c : RewindContext} (h : v.rewind = some c) :
    (contextFlags v).toNat = 1 + 2 * c.targetMoved.toNat + 4 * c.pauseRequested.toNat + 8 * c.stop.isSome.toNat +
      16 * c.inHand.isSome.toNat + 32 * (c.inHand.any (·.redo)).toNat := by
  rw [contextFlags, toNat_flags, h]
  rfl

/-- The fields of page 2, in the order in which they stand. -/
def page2Fields (v : Window) : List (List Byte) :=
  let stop := v.rewind.bind (·.stop)
  let hand := v.rewind.bind (·.inHand)
  [[contextFlags v], opt1 (v.rewind.map (·.phase.code)), opt4 (v.rewind.map (·.target)), opt4 (stop.map (·.stopPosition)),
    opt4 (stop.map (·.stopSequence.toNat)), opt4 (stop.map (·.remaining)), opt4 (stop.map (·.nextPosition)),
    opt4 (stop.map (·.nextSequence.toNat)), opt4 (v.rewind.map (·.restored)), opt4 (v.rewind.map (·.skipped)),
    opt4 (hand.map (·.position)), opt4 (hand.map (·.sequence.toNat)), opt1 (hand.bind (fun r => r.kind.map RecordKind.code)),
    opt1 (hand.map (·.stage.code)), [faultFlags v], opt1 (v.fault.map (·.cause.code)),
    opt4 (v.fault.bind (fun f => f.sequence.map BitVec.toNat)), optLine (v.fault.bind (·.line))]

theorem page2_layout (v : Window) :
    Layout (page2 v) (page2Fields v) [1, 1, 4, 4, 4, 4, 4, 4, 4, 4, 4, 4, 1, 1, 1, 1, 4, 5] :=
  ⟨by simp [page2Fields, page2], rfl⟩

theorem page2_noContext {v : Window} (h : v.rewind = none) : pageField (page2 v) 5 48 = 0 := by
  have hfields : (page2Fields v).take 14 = [[0], opt1 none, opt4 none, opt4 none, opt4 none, opt4 none, opt4 none, opt4 none,
      opt4 none, opt4 none, opt4 none, opt4 none, opt1 none, opt1 none] := by
    simp only [page2Fields, contextFlags, h]
    rfl
  have hrange : pageField (page2 v) 5 48 = leValue ((page2Fields v).take 14).flatten :=
    (page2_layout v).range 0 14 rfl rfl
  rw [hrange, hfields]
  rfl

section
variable {v : Window} {c : RewindContext} (h : v.rewind = some c)
include h

theorem page2_context :
    pageField (page2 v) 5 5 = 1 + 2 * c.targetMoved.toNat + 4 * c.pauseRequested.toNat + 8 * c.stop.isSome.toNat +
        16 * c.inHand.isSome.toNat + 32 * (c.inHand.any (·.redo)).toNat ∧
      pageField (page2 v) 6 6 = c.phase.code.toNat ∧ pageField (page2 v) 7 10 = c.target % 2 ^ 32 := by
  have hl := page2_layout v
  refine ⟨hl.field 0 rfl rfl rfl ((leValue_singleton _).trans (contextFlags_of_context h)), hl.field 1 rfl rfl rfl ?_,
    hl.field 2 rfl rfl rfl ?_⟩
  · rw [h]
    exact leValue_singleton _
  · rw [h]
    exact leValue_opt4 _

theorem page2_counts :
    pageField (page2 v) 31 34 = c.restored % 2 ^ 32 ∧ pageField (page2 v) 35 38 = c.skipped % 2 ^ 32 := by
  have hl := page2_layout v
  refine ⟨hl.field 8 rfl rfl rfl ?_, hl.field 9 rfl rfl rfl ?_⟩
  · rw [h]
    exact leValue_opt4 _
  · rw [h]
    exact leValue_opt4 _

theorem page2_noStop (hs : c.stop = none) : pageField (page2 v) 11 30 = 0 := by
  have hfields : ((page2Fields v).drop 3).take 5 = [opt4 none, opt4 none, opt4 none, opt4 none, opt4 none] := by
    simp only [page2Fields, h, Option.bind_some, hs]
    rfl
  rw [(page2_layout v).range 3 5 rfl rfl, hfields]
  rfl

theorem page2_stop {f : StopFields} (hf : c.stop = some f) :
    pageField (page2 v) 11 14 = f.stopPosition % 2 ^ 32 ∧ pageField (page2 v) 15 18 = f.stopSequence.toNat ∧
      pageField (page2 v) 19 22 = f.remaining % 2 ^ 32 ∧ pageField (page2 v) 23 26 = f.nextPosition % 2 ^ 32 ∧
      pageField (page2 v) 27 30 = f.nextSequence.toNat := by
  have hl := page2_layout v
  have hstop : v.rewind.bind (·.stop) = some f := by rw [h, Option.bind_some, hf]
  refine ⟨hl.field 3 rfl rfl rfl ?_, hl.field 4 rfl rfl rfl ?_, hl.field 5 rfl rfl rfl ?_, hl.field 6 rfl rfl rfl ?_,
    hl.field 7 rfl rfl rfl ?_⟩
  all_goals rw [hstop]
  · exact leValue_opt4 _
  · exact leValue_leBytes_of_lt (n := 4) f.stopSequence.isLt
  · exact leValue_opt4 _
  · exact leValue_opt4 _
  · exact leValue_leBytes_of_lt (n := 4) f.nextSequence.isLt

theorem page2_noHand (hn : c.inHand = none) : pageField (page2 v) 39 48 = 0 := by
  have hfields : ((page2Fields v).drop 10).take 4 = [opt4 none, opt4 none, opt1 none, opt1 none] := by
    simp only [page2Fields, h, Option.bind_some, hn]
    rfl
  rw [(page2_layout v).range 10 4 rfl rfl, hfields]
  rfl

theorem page2_hand {r : RecordInHand} (hr : c.inHand = some r) :
    pageField (page2 v) 39 42 = r.position % 2 ^ 32 ∧ pageField (page2 v) 43 46 = r.sequence.toNat ∧
      (r.kind = none → pageField (page2 v) 47 47 = 0) ∧
      (∀ kind, r.kind = some kind → pageField (page2 v) 47 47 = kind.code.toNat) ∧
      pageField (page2 v) 48 48 = r.stage.code.toNat := by
  have hl := page2_layout v
  have hhand : v.rewind.bind (·.inHand) = some r := by rw [h, Option.bind_some, hr]
  have hkind : ∀ o, r.kind = o → pageField (page2 v) 47 47 = leValue (opt1 (o.map RecordKind.code)) := fun o ho =>
    hl.field 12 rfl rfl rfl (by rw [hhand, Option.bind_some, ho])
  refine ⟨hl.field 10 rfl rfl rfl ?_, hl.field 11 rfl rfl rfl ?_, hkind none, fun kind hk =>
    (hkind _ hk).trans (leValue_singleton _), hl.field 13 rfl rfl rfl ?_⟩
  all_goals rw [hhand]
  · exact leValue_opt4 _
  · exact leValue_leBytes_of_lt (n := 4) r.sequence.isLt
  · exact leValue_singleton _

end

theorem page2_noFault {v : Window} (h : v.fault = none) : pageField (page2 v) 49 59 = 0 := by
  have hfields : ((page2Fields v).drop 14).take 4 = [[0], opt1 none, opt4 none, optLine none] := by
    simp only [page2Fields, faultFlags, h]
    rfl
  rw [(page2_layout v).range 14 4 rfl rfl, hfields]
  rfl

theorem page2_fault {v : Window} {f : FaultRecord} (h : v.fault = some f) :
    pageField (page2 v) 49 49 = 1 + 2 * f.sequence.isSome.toNat + 4 * f.line.isSome.toNat ∧
      pageField (page2 v) 50 50 = f.cause.code.toNat ∧
      pageField (page2 v) 51 54 = ((f.sequence.map BitVec.toNat).getD 0) ∧
      pageField (page2 v) 55 59 = ((f.line.map Line.addr).getD 0) := by
  have hl := page2_layout v
  have hflags : (faultFlags v).toNat = 1 + 2 * f.sequence.isSome.toNat + 4 * f.line.isSome.toNat := by
    rw [faultFlags, h, Option.any_some, Option.any_some]
    cases f.sequence.isSome <;> cases f.line.isSome <;> rfl
  refine ⟨hl.field 14 rfl rfl rfl ((leValue_singleton _).trans hflags), hl.field 15 rfl rfl rfl ?_,
    hl.field 16 rfl rfl rfl ?_, hl.field 17 rfl rfl rfl ?_⟩
  all_goals rw [h]
  · exact leValue_singleton _
  · exact leValue_opt4_toNat f.sequence
  · exact leValue_optLine f.line

/-! ### Page 3 (R169, R188) -/

theorem reqClass_code_lt (c : ReqClass) : c.code.toNat < 4 := by cases c <;> decide

/-- Base-4 digits are read back by division. -/
theorem digit_of_sum {a b c d : Nat} (ha : a < 4) (hb : b < 4) (hc : c < 4) (hd : d < 4) (i : Fin 4) :
    (BitVec.ofNat 8 (a + 4 * b + 16 * c + 64 * d)).toNat / 4 ^ i.val % 4 = ![a, b, c, d] i := by
  rw [toNat_ofNat_byte (by omega)]
  fin_cases i <;> simp <;> omega

theorem classByte_digit (v : Window) (j : Fin 16) (i : Fin 4) :
    (classByte v j).toNat / 4 ^ i.val % 4 = (v.classes[4 * j.val + i.val]).code.toNat := by
  rw [classByte, digit_of_sum (reqClass_code_lt _) (reqClass_code_lt _) (reqClass_code_lt _) (reqClass_code_lt _)]
  fin_cases i <;> rfl

theorem page3_byte (v : Window) (j : Fin 16) : pageField (page3 v) (5 + j.val) (5 + j.val) = (classByte v j).toNat := by
  have hj : j.val < (page3 v).length := by simp [page3]
  have hget : (page3 v)[j.val] = classByte v j := by simp [page3]
  have hwidth : 5 + j.val + 1 - (5 + j.val) = 1 := by omega
  rw [pageField, hwidth, Nat.add_sub_cancel_left, List.drop_eq_getElem_cons hj, List.take_succ_cons, List.take_zero, hget]
  rfl

theorem page3_class (v : Window) (r : Requester) :
    pageField (page3 v) (5 + r.val / 4) (5 + r.val / 4) / 4 ^ (r.val % 4) % 4 = (v.classes[r]).code.toNat := by
  have hbyte := page3_byte v ⟨r.val / 4, by omega⟩
  have hdigit := classByte_digit v ⟨r.val / 4, by omega⟩ ⟨r.val % 4, by omega⟩
  have hindex : 4 * (r.val / 4) + r.val % 4 = r.val := Nat.div_add_mod _ _
  simp only at hbyte hdigit
  rw [hbyte, hdigit]
  simp only [hindex]
  rfl

theorem page1_count (v : Window) : pageField (page1 v) 5 5 = v.gens.length % 2 ^ 8 := by
  have hbyte : ((page1 v).drop 0).take 1 = [BitVec.ofNat 8 v.gens.length] := rfl
  exact (congrArg leValue hbyte).trans (leValue_count _)

theorem page3_length (v : Window) : (page3 v).length = 16 := by simp [page3]

/-- Settles O16, page by page. -/
theorem pageBytesStandWhereTheLayoutSays : Obligations.PageBytesStandWhereTheLayoutSays := by
  unfold Obligations.PageBytesStandWhereTheLayoutSays
  intro at_
  have hat : at_ = pageField := rfl
  clear_value at_
  subst hat
  refine ⟨fun w s => ⟨(page0_layout s w).length, page0_settings s w, page0_unbound s w, fun _ => page0_bound s w,
    page0_progress s w⟩, fun v => ⟨page1_count v, page1_beyond v, fun _ _ => page1_entry⟩, fun v => ⟨(page2_layout v).length,
    page2_noContext, fun c h => ?_, page2_noFault, fun _ => page2_fault⟩, fun v r => ⟨page3_length v, page3_class v r⟩⟩
  obtain ⟨hflags, hphase, htarget⟩ := page2_context h
  obtain ⟨hrestored, hskipped⟩ := page2_counts h
  exact ⟨hflags, hphase, htarget, page2_noStop h, fun _ => page2_stop h, hrestored, hskipped, page2_noHand h,
    fun _ => page2_hand h⟩

end Sys2Proof.Machine
end

section
/-! The undo record (R36, R49, R62 to R65, R184): the bytes of a line, the header that a slot writes, and the tests that read it. -/

namespace Sys2Proof

/-! ### The bytes of a line -/

theorem drop_leBytes (n k x : Nat) : (leBytes n x).drop k = leBytes (n - k) (x / 256 ^ k) := by
  induction k generalizing n x with
  | zero => simp
  | succ k ih =>
    cases n with
    | zero => simp [leBytes]
    | succ n => rw [leBytes, List.drop_succ_cons, ih, Nat.div_div_eq_div_mul, Nat.add_sub_add_right, pow_succ']

theorem take_leBytes {n m : Nat} (h : m ≤ n) (x : Nat) : (leBytes n x).take m = leBytes m x := by
  induction m generalizing n x with
  | zero => rfl
  | succ m ih =>
    obtain ⟨n, rfl⟩ : ∃ n', n = n' + 1 := ⟨n - 1, by omega⟩
    rw [leBytes, leBytes, List.take_succ_cons, ih (by omega)]

theorem leBytes_leValue (bs : List Byte) : leBytes bs.length (leValue bs) = bs := by
  induction bs with
  | nil => rfl
  | cons b bs ih =>
    have hdiv : (b.toNat + 256 * leValue bs) / 256 = leValue bs := by
      have := b.isLt
      omega
    have hbyte : BitVec.ofNat 8 (b.toNat + 256 * leValue bs) = b := by
      apply BitVec.eq_of_toNat_eq
      rw [BitVec.toNat_ofNat]
      have := b.isLt
      omega
    rw [List.length_cons, leBytes, leValue, hbyte, hdiv, ih]

theorem leValue_lt (bs : List Byte) : leValue bs < 256 ^ bs.length := by
  have h := congrArg leValue (leBytes_leValue bs)
  rw [leValue_leBytes] at h
  rw [← h]
  exact Nat.mod_lt _ (by positivity)

/-- A line of 64 given bytes has those bytes. -/
theorem lineBytes_lineOfBytes {bs : List Byte} (h : bs.length = 64) : lineBytes (lineOfBytes bs) = bs := by
  have hlt : leValue bs < 2 ^ 512 := by
    have hv := leValue_lt bs
    have hpow : (256 : Nat) ^ 64 = 2 ^ 512 := by rw [show (256 : Nat) = 2 ^ 8 from rfl, ← pow_mul]
    rwa [h, hpow] at hv
  rw [lineBytes, lineOfBytes, Machine.toNat_ofNat_of_lt hlt, ← h, leBytes_leValue]

/-- A field of a line is the number that its bytes spell. -/
theorem leValue_lineBytes (d : LineData) {offset n : Nat} (h : offset + n ≤ 64) :
    leValue (((lineBytes d).drop offset).take n) = lineField d offset n := by
  rw [lineBytes, drop_leBytes, take_leBytes (by omega), leValue_leBytes, lineField]

theorem lineField_lt (d : LineData) (offset n : Nat) : lineField d offset n < 256 ^ n := Nat.mod_lt _ (by positivity)

end Sys2Proof

namespace Sys2Proof.Machine

open Sys2Proof

/-! ### The header that a slot writes (R36, R62, R63, R184) -/

theorem length_headerHead (kind : RecordKind) (w : WindowIdx) (q : Requester) (g : Nat) (n : Seq) (l : Line) :
    (headerHead kind w q g n l).length = 60 := padTo_length 60 _

theorem lineBytes_headerLineOf {head : List Byte} (h : head.length = 60) (check : BitVec 32) :
    lineBytes (headerLineOf head check) = head ++ leBytes 4 check.toNat :=
  lineBytes_lineOfBytes (by simp [h, leBytes_length])

theorem headOf_headerLineOf {head : List Byte} (h : head.length = 60) (check : BitVec 32) :
    headOf (headerLineOf head check) = head := by
  rw [headOf, lineBytes_headerLineOf h, List.take_left' h]

theorem checkOf_headerLineOf {head : List Byte} (h : head.length = 60) (check : BitVec 32) :
    checkOf (headerLineOf head check) = check := by
  rw [checkOf, ← leValue_lineBytes _ (by omega), lineBytes_headerLineOf h, List.drop_left' h,
    List.take_of_length_le (by rw [leBytes_length]), leValue_leBytes_of_lt (n := 4) check.isLt]
  simp

/-- The header line that a slot writes, with its kind and its check. -/
def slotHeader (kind : RecordKind) (sl : Slot) (check : BitVec 32) : LineData :=
  headerLineOf (headerHead kind sl.window sl.trigger.requester sl.generation sl.sequence sl.line) check

/-- The fields of a slot's header line, in the order in which they stand (R184). -/
def headerFields (kind : RecordKind) (sl : Slot) (check : BitVec 32) : List (List Byte) :=
  [[kind.code], [BitVec.ofNat 8 sl.window.val], [BitVec.ofNat 8 sl.trigger.requester.val], [0x00], leBytes 4 sl.generation,
    leBytes 4 sl.sequence.toNat, leBytes 5 (Line.addr sl.line), List.replicate 43 0, leBytes 4 check.toNat]

/-- How many bytes each field of a header line has. -/
def headerWidths : List Nat := [1, 1, 1, 1, 4, 4, 5, 43, 4]

theorem flatten_headerFields (kind : RecordKind) (sl : Slot) (check : BitVec 32) :
    (headerFields kind sl check).flatten = lineBytes (slotHeader kind sl check) := by
  rw [slotHeader, lineBytes_headerLineOf (length_headerHead _ _ _ _ _ _), headerHead, padTo_of_le]
  · simp [headerFields, leBytes_length]
  · simp [leBytes_length]

/-- A page begins at byte 5, a line at byte 0. -/
theorem slotHeader_layout (kind : RecordKind) (sl : Slot) (check : BitVec 32) :
    Layout (lineBytes (slotHeader kind sl check)) (headerFields kind sl check) headerWidths :=
  ⟨flatten_headerFields kind sl check, rfl⟩

/-- The number in bytes `first` to `last` of a line. -/
def bytesField (h : LineData) (first last : Nat) : Nat := leValue (((lineBytes h).drop first).take (last + 1 - first))

theorem bytesField_eq (h : LineData) {first last : Nat} (hle : first ≤ last) (hin : last < 64) :
    bytesField h first last = lineField h first (last + 1 - first) := leValue_lineBytes h (by omega)

theorem slotHeader_field {kind : RecordKind} {sl : Slot} {check : BitVec 32} (k : Nat) {first last : Nat} {f : List Byte}
    {x : Nat} (hf : (headerFields kind sl check)[k]? = some f) (hfirst : (headerWidths.take k).sum = first)
    (hlast : headerWidths[k]? = some (last + 1 - first)) (hx : leValue f = x) :
    bytesField (slotHeader kind sl check) first last = x := by
  have h := (slotHeader_layout kind sl check).field k (first := first + 5) (last := last + 5) hf
    (by rw [Nat.add_sub_cancel]; exact hfirst) (by rw [hlast]; congr 1; omega) hx
  rw [pageField, Nat.add_sub_cancel, show last + 5 + 1 - (first + 5) = last + 1 - first by omega] at h
  exact h

theorem lineAddr_lt (l : Line) : Line.addr l < 2 ^ 40 := by
  have := l.isLt
  rw [Line.addr]
  omega

/-- The fields of the header line that a slot writes. -/
theorem slotHeader_fields (kind : RecordKind) (sl : Slot) (check : BitVec 32) :
    bytesField (slotHeader kind sl check) 0 0 = kind.code.toNat ∧
      bytesField (slotHeader kind sl check) 1 1 = sl.window.val ∧
      bytesField (slotHeader kind sl check) 2 2 = sl.trigger.requester.val ∧
      bytesField (slotHeader kind sl check) 3 3 = 0 ∧
      bytesField (slotHeader kind sl check) 4 7 = sl.generation % 2 ^ 32 ∧
      bytesField (slotHeader kind sl check) 8 11 = sl.sequence.toNat ∧
      bytesField (slotHeader kind sl check) 12 16 = Line.addr sl.line ∧
      bytesField (slotHeader kind sl check) 17 59 = 0 ∧ bytesField (slotHeader kind sl check) 60 63 = check.toNat :=
  ⟨slotHeader_field 0 rfl rfl rfl (leValue_singleton _),
    slotHeader_field 1 rfl rfl rfl ((leValue_singleton _).trans (toNat_ofNat_byte (by omega))),
    slotHeader_field 2 rfl rfl rfl ((leValue_singleton _).trans (toNat_ofNat_byte (by omega))),
    slotHeader_field 3 rfl rfl rfl rfl, slotHeader_field 4 rfl rfl rfl (leValue_leBytes 4 _),
    slotHeader_field 5 rfl rfl rfl (leValue_leBytes_of_lt (n := 4) sl.sequence.isLt),
    slotHeader_field 6 rfl rfl rfl (leValue_leBytes_of_lt (n := 5) (lineAddr_lt sl.line)),
    slotHeader_field 7 rfl rfl rfl (leValue_replicate_zero 43),
    slotHeader_field 8 rfl rfl rfl (leValue_leBytes_of_lt (n := 4) check.isLt)⟩

/-! ### The tests of R64 -/

theorem kindOf_iff (h : LineData) (kind : RecordKind) : kindOf h = some kind ↔ bytesField h 0 0 = kind.code.toNat := by
  have hbyte : bytesField h 0 0 = lineField h 0 1 := bytesField_eq h (first := 0) (last := 0) (by omega) (by omega)
  have hcapture : RecordKind.capture.code.toNat = 0x5A := rfl
  have hvoid : RecordKind.void.code.toNat = 0xA5 := rfl
  rw [hbyte, kindOf]
  by_cases h1 : lineField h 0 1 = 0x5A
  · cases kind <;> simp [h1, hcapture, hvoid]
  · by_cases h2 : lineField h 0 1 = 0xA5 <;> cases kind <;> simp [h1, h2, hcapture, hvoid]

/-- A header passes the first tests as a record of a kind exactly when it carries the kind, the window and the sequence number. -/
theorem acceptHeader_iff (w : WindowIdx) (q : Seq) (h : LineData) (kind : RecordKind) :
    acceptHeader w q h = some kind ↔
      bytesField h 0 0 = kind.code.toNat ∧ bytesField h 1 1 = w.val ∧ bytesField h 8 11 = q.toNat := by
  rw [← kindOf_iff, bytesField_eq h (Nat.le_refl 1) (by omega), bytesField_eq h (by omega) (by omega), acceptHeader]
  constructor
  · intro ha
    split at ha
    · rename_i hc
      exact ⟨ha, hc⟩
    · exact nomatch ha
  · rintro ⟨hk, hc⟩
    exact (if_pos hc).trans hk

theorem recordedAddress_eq (h : LineData) : recordedAddress h = bytesField h 12 16 :=
  (bytesField_eq h (first := 12) (last := 16) (by omega) (by omega)).symm

theorem recordedLine_addr {h : LineData} (hm : bytesField h 12 16 % 64 = 0) :
    Line.addr (recordedLine h) = bytesField h 12 16 := by
  have hlt : recordedAddress h < 256 ^ 5 := lineField_lt h 12 5
  rw [Line.addr, recordedLine, recordedAddress_eq, BitVec.toNat_ofNat]
  rw [recordedAddress_eq] at hlt
  omega

theorem addressValid_iff (v : Window) (h : LineData) :
    addressValid v h = true ↔ bytesField h 12 16 % 64 = 0 ∧ v.base.toNat ≤ bytesField h 12 16 ∧
      bytesField h 12 16 < v.base.toNat + v.size := by
  rw [addressValid, recordedAddress_eq, Window.covers, Bool.and_eq_true, Bool.and_eq_true, decide_eq_true_iff,
    decide_eq_true_iff, decide_eq_true_iff]
  constructor
  · rintro ⟨hm, hc⟩
    rw [recordedLine_addr hm] at hc
    exact ⟨hm, hc⟩
  · rintro ⟨hm, hc⟩
    rw [recordedLine_addr hm]
    exact ⟨hm, hc⟩

/-- The record check of a header is the number in its last four bytes. -/
theorem beq_checkOf_iff (c : BitVec 32) (h : LineData) : (c == checkOf h) = true ↔ bytesField h 60 63 = c.toNat := by
  have hlt : lineField h 60 4 < 256 ^ 4 := lineField_lt h 60 4
  have hto : (checkOf h).toNat = bytesField h 60 63 := by
    rw [bytesField_eq h (by omega) (by omega), checkOf]
    exact toNat_ofNat_of_lt hlt
  rw [beq_iff_eq, ← hto, BitVec.toNat_inj, eq_comm]

theorem voidCheckValid_iff (h : LineData) :
    voidCheckValid h = true ↔ bytesField h 60 63 = (crc32 ((lineBytes h).take 60)).toNat := beq_checkOf_iff _ h

theorem captureCheckValid_iff (h data : LineData) :
    captureCheckValid h data = true ↔
      bytesField h 60 63 = (crc32 ((lineBytes h).take 60 ++ lineBytes data)).toNat := beq_checkOf_iff _ h

/-! ### Where a record stands (R36, R49) -/

theorem headerLine_addr {v : Window} {b : RingBinding} {p : Nat} (hb : v.binding = some b) (ha : b.base.toNat % 64 = 0)
    (hr : b.base.toNat + 128 * p + 128 ≤ 2 ^ 40) :
    Line.addr (v.headerLine p) = b.base.toNat + 128 * p ∧ Line.addr (v.dataLine p) = b.base.toNat + 128 * p + 64 := by
  have hheader : (v.headerLine p).toNat = (b.base.toNat + 128 * p) / 64 := by
    rw [Window.headerLine, hb]
    exact toNat_ofNat_of_lt (by simp only [Option.map_some, Option.getD_some]; omega)
  have hdata : (v.dataLine p).toNat = (b.base.toNat + 128 * p) / 64 + 1 := by
    rw [Window.dataLine, BitVec.toNat_add, hheader]
    exact Nat.mod_eq_of_lt (by simp; omega)
  rw [Line.addr, Line.addr, hheader, hdata]
  omega

/-! ### A record that a slot wrote -/

/-- The bytes that a record's check covers behind the header's first 60 (R62, R63). -/
def checkedData (kind : RecordKind) (data : LineData) : List Byte :=
  match kind with
  | .capture => lineBytes data
  | .void => []

/-- The header line that a slot writes for a record of a kind. -/
theorem slotHeader_of_kind {sl : Slot} {data h : LineData} {kind : RecordKind}
    (hk : (kind = .capture ∧ h = captureHeader sl data) ∨ (kind = .void ∧ h = voidHeader sl)) :
    h = slotHeader kind sl (crc32 (headerHead kind sl.window sl.trigger.requester sl.generation sl.sequence sl.line ++
      checkedData kind data)) := by
  rcases hk with ⟨rfl, rfl⟩ | ⟨rfl, rfl⟩
  · rfl
  · rw [checkedData, List.append_nil]
    rfl

/-- Settles O26, by the layout of the header line and the tests as statements about its bytes. -/
theorem theUndoRecordIsWrittenAndTested : Obligations.TheUndoRecordIsWrittenAndTested := by
  unfold Obligations.TheUndoRecordIsWrittenAndTested
  intro field
  have hfield : field = bytesField := rfl
  clear_value field
  subst hfield
  refine ⟨fun v b p => headerLine_addr, fun sl data h kind hk => ?_, fun sl data v => ?_,
    fun w q h => ⟨acceptHeader_iff w q h .capture, acceptHeader_iff w q h .void⟩,
    fun v h data => ⟨addressValid_iff v h, fun ha => recordedLine_addr ((addressValid_iff v h).mp ha).1,
      voidCheckValid_iff h, captureCheckValid_iff h data⟩⟩
  · have hslot := slotHeader_of_kind hk
    have hhead := length_headerHead kind sl.window sl.trigger.requester sl.generation sl.sequence sl.line
    subst hslot
    obtain ⟨h0, h1, h2, h3, h4, h8, h12, h17, h60⟩ := slotHeader_fields kind sl
      (crc32 (headerHead kind sl.window sl.trigger.requester sl.generation sl.sequence sl.line ++ checkedData kind data))
    refine ⟨?_, h1, h2, h3, h4, h8, h12, h17, ?_, (acceptHeader_iff _ _ _ _).mpr ⟨h0, h1, h8⟩⟩
    · rw [h0]
      cases kind <;> rfl
    · rw [h60, slotHeader, lineBytes_headerLineOf hhead, List.take_left' hhead]
      cases kind <;> rfl
  · have hhead := fun kind => length_headerHead kind sl.window sl.trigger.requester sl.generation sl.sequence sl.line
    obtain ⟨-, -, -, -, -, -, h12, -⟩ := slotHeader_fields .capture sl
      (crc32 (headerHead .capture sl.window sl.trigger.requester sl.generation sl.sequence sl.line ++ lineBytes data))
    have haddress : recordedAddress (captureHeader sl data) = Line.addr sl.line := (recordedAddress_eq _).trans h12
    have hline : recordedLine (captureHeader sl data) = sl.line := by
      rw [recordedLine, haddress, Line.addr, Nat.mul_div_cancel _ (by decide), BitVec.ofNat_toNat, BitVec.setWidth_eq]
    refine ⟨?_, ?_, hline, ?_⟩
    · rw [captureCheckValid, captureHeader, headOf_headerLineOf (hhead _), checkOf_headerLineOf (hhead _), beq_self_eq_true]
    · rw [voidCheckValid, voidHeader, headOf_headerLineOf (hhead _), checkOf_headerLineOf (hhead _), beq_self_eq_true]
    · rw [addressValid, haddress, hline, Line.addr, Nat.mul_mod_left]
      rfl

end Sys2Proof.Machine
end

section
/-! The requests of the system port (chapter 6): what classification and the placement decision come to, case by case, and the
requests that are refused, forwarded, parked or answered FAULT. -/

namespace Sys2Proof.Machine

open Sys2Proof

/-! ### The outcome of a request -/

theorem exec_of_gone {r : SysRequest} {s t : State} {place : Option (WindowIdx × ReqClass)} (h : TakenFresh r s)
    (hd : decideFresh s.park r (takeIn r s) = (place, .gone, t)) : exec (.systemRequest r) s = .next t := by
  rw [exec_systemRequest_fresh h, hd]

theorem exec_of_parks {r : SysRequest} {s t : State} {place : Option (WindowIdx × ReqClass)} {reason : ParkReason}
    (h : TakenFresh r s) (hd : decideFresh s.park r (takeIn r s) = (place, .parks reason, t)) :
    (s.park.length < 32 → exec (.systemRequest r) s =
      .next { t with park := t.park ++ [{ request := r, place := place, reason := reason }] }) ∧
    (32 ≤ s.park.length → exec (.systemRequest r) s = .next { s with waiting := some r }) := by
  rw [exec_systemRequest_fresh h, hd]
  exact ⟨fun hl => by simp only [if_pos hl], fun hl => by simp only [if_neg (Nat.not_lt.mpr hl)]⟩

/-! ### Classification (R108 to R110) -/

theorem ringAreaOf_of_alone {s : State} {w : WindowIdx} {l : Line} (hs : (s.window w).state ≠ .unused)
    (hc : (s.window w).ringCovers l = true)
    (ha : ∀ u, u ≠ w → (s.window u).state ≠ .unused → (s.window u).ringCovers l = false) : ringAreaOf s l = some w := by
  have hex : (ringAreaOf s l).isSome := by
    rw [ringAreaOf, List.find?_isSome]
    exact ⟨w, List.mem_finRange w, by simp [hs, hc]⟩
  obtain ⟨u, hu⟩ := Option.isSome_iff_exists.mp hex
  have hp := List.find?_some hu
  simp only [Bool.and_eq_true, bne_iff_ne, ne_eq] at hp
  have huw : u = w := by
    by_contra hne
    exact absurd hp.2 (by simp [ha u hne hp.1])
  rw [← huw]
  exact hu

theorem decideFresh_of_trespass {s : State} {w : WindowIdx} {r : SysRequest} (older : List ParkEntry)
    (ho : r.op.isWrite = true) (h : ringAreaOf s r.line = some w) :
    decideFresh older r s = (none, .gone, emit (trespassEvent w r) (answerFault r s)) := by
  simp only [decideFresh, classify, h, ho, if_true]

theorem decideFresh_of_denied {s : State} {w : WindowIdx} {r : SysRequest} (older : List ParkEntry)
    (ho : r.op.isWrite = true) (h : LiesIn s w r.line) (hc : (s.window w).classes[r.requester] = .readOnly) :
    decideFresh older r s = (none, .gone, emit (deniedEvent w r) (answerFault r s)) := by
  have hclass : (s.window w).classOf r.requester = .readOnly := hc
  simp only [decideFresh, classify_liesIn h, ho, hclass, beq_self_eq_true, Bool.and_self, if_true]

/-- What the placement decision is asked about: a request of a window that is not a denied write. -/
structure Tracked (s : State) (w : WindowIdx) (r : SysRequest) : Prop where
  lies : LiesIn s w r.line
  allowed : r.op.isWrite = true → (s.window w).classes[r.requester] ≠ .readOnly

theorem decideFresh_of_tracked {s : State} {w : WindowIdx} {r : SysRequest} (older : List ParkEntry) (h : Tracked s w r) :
    decideFresh older r s = (some (w, (s.window w).classes[r.requester]),
      placementDecision older (some (w, (s.window w).classes[r.requester])) r s) := by
  have hallowed : (r.op.isWrite && (s.window w).classOf r.requester == .readOnly) = false := by
    simpa [Window.classOf] using h.allowed
  simp only [decideFresh, classify_liesIn h.lies, hallowed]
  rfl

theorem decideFresh_of_untracked {s : State} {r : SysRequest} (older : List ParkEntry) (h : classify s r = .untracked) :
    decideFresh older r s = (none, placeOpen older none r s) := by
  simp only [decideFresh, h, placementDecision]

/-! ### The placement decision (R115), case by case -/

theorem placementDecision_of_faulted {s : State} {w : WindowIdx} (older : List ParkEntry) (c : ReqClass) (r : SysRequest)
    (h : (s.window w).state = .faulted) : placementDecision older (some (w, c)) r s = (.gone, answerFault r s) := by
  simp only [placementDecision, h]

theorem placementDecision_of_fence {s : State} {w : WindowIdx} (older : List ParkEntry) (c : ReqClass) (r : SysRequest)
    (h : (s.window w).state = .rewinding ∨ (s.window w).state = .paused) :
    placementDecision older (some (w, c)) r s = fenced w r s := by
  rcases h with h | h <;> simp only [placementDecision, h]

theorem placementDecision_of_open {s : State} {w : WindowIdx} (older : List ParkEntry) (c : ReqClass) (r : SysRequest)
    (h : (s.window w).state = .defined ∨ (s.window w).state = .disarming) :
    placementDecision older (some (w, c)) r s = placeOpen older none r s := by
  rcases h with h | h <;> simp only [placementDecision, h]

theorem placementDecision_of_armed {s : State} {w : WindowIdx} (older : List ParkEntry) (c : ReqClass) (r : SysRequest)
    (h : (s.window w).state = .armed) :
    placementDecision older (some (w, c)) r s = placeOpen older (some (w, c)) r s := by
  simp only [placementDecision, h]

theorem fenced_of_hold {s : State} {w : WindowIdx} (r : SysRequest) (h : (s.window w).fence = .hold) :
    fenced w r s = (.parks .fenced, s) := by simp only [fenced, h]

theorem fenced_of_refuse {s : State} {w : WindowIdx} (r : SysRequest) (h : (s.window w).fence = .refuse) :
    fenced w r s = (.gone, answerFault r s) := by simp only [fenced, h]

theorem placeOpen_of_busy {s : State} {older : List ParkEntry} (armed : Option (WindowIdx × ReqClass)) {r : SysRequest}
    (h : lineBusy older s r.line = true) : placeOpen older armed r s = (.parks .lineBusy, s) := if_pos h

theorem placeOpen_none_of_free {s : State} {older : List ParkEntry} {r : SysRequest} (h : lineBusy older s r.line = false) :
    placeOpen older none r s = (.gone, forward r s) := if_neg (by simp [h])

theorem placeOpen_some_of_free {s : State} {older : List ParkEntry} {w : WindowIdx} {c : ReqClass} {r : SysRequest}
    (h : lineBusy older s r.line = false) : placeOpen older (some (w, c)) r s = placeArmed w c r s := if_neg (by simp [h])

theorem placeArmed_of_read (w : WindowIdx) (c : ReqClass) {r : SysRequest} (s : State) (h : r.op = .read) :
    placeArmed w c r s = (.gone, forward r s) := if_neg (by simp [h, MemOp.isWrite])

theorem placeArmed_of_hit {w : WindowIdx} (c : ReqClass) {r : SysRequest} {s : State} (h : r.op.isWrite = true)
    (hf : filterHit s w r.line = true) : placeArmed w c r s = (.gone, reportPlacement w c (forward r s)) := by
  simp only [placeArmed, h, hf, if_true]

theorem placeArmed_of_miss {w : WindowIdx} (c : ReqClass) {r : SysRequest} {s : State} (h : r.op.isWrite = true)
    (hf : filterHit s w r.line = false) : placeArmed w c r s = captureSetUp w c r s := by
  simp [placeArmed, h, hf]

theorem captureSetUp_of_noSlot {w : WindowIdx} (c : ReqClass) (r : SysRequest) {s : State} (h : s.freeSlot = none) :
    captureSetUp w c r s = (.parks .noSlot, s) := by simp only [captureSetUp, h]

theorem captureSetUp_of_room {w : WindowIdx} (c : ReqClass) (r : SysRequest) {s : State} {k : SlotIdx}
    (h : s.freeSlot = some k) (hr : ((makeRoom w s).window w).ringIsFull = false) :
    captureSetUp w c r s = (.gone, placeCapture k w c r (makeRoom w s)) := by
  simp [captureSetUp, h, hr]

theorem captureSetUp_of_full {w : WindowIdx} (c : ReqClass) (r : SysRequest) {s : State} {k : SlotIdx}
    (h : s.freeSlot = some k) (hm : makeRoom w s = s) (hr : (s.window w).ringIsFull = true) :
    captureSetUp w c r s = ringFullOutcome w r s := by
  simp only [captureSetUp, h, hm, hr, if_true]

theorem Window.ringIsFull_iff (v : Window) : v.ringIsFull = true ↔ v.capacity ≤ v.ring.occupancy := by
  simp [Window.ringIsFull]

theorem Window.ringIsFull_eq_false (v : Window) : v.ringIsFull = false ↔ v.ring.occupancy < v.capacity := by
  simp [Window.ringIsFull]

theorem ringFullOutcome_of_hold {w : WindowIdx} (r : SysRequest) {s : State} (h : (s.window w).policy = .hold) :
    ringFullOutcome w r s = (.parks .ringFull, turnedAway w r.requester r.line s) := by simp only [ringFullOutcome, h]

theorem ringFullOutcome_of_not_hold {w : WindowIdx} (r : SysRequest) {s : State}
    (h : (s.window w).policy = .refuse ∨ (s.window w).policy = .reclaim) :
    ringFullOutcome w r s = (.gone, answerFault r (turnedAway w r.requester r.line s)) := by
  rcases h with h | h <;> simp only [ringFullOutcome, h]

theorem exists_lowestFree {s : State} (h : ∃ k, s.slot k = none) : ∃ k, LowestFree s k := by
  have hex : s.freeSlot.isSome := by
    obtain ⟨k, hk⟩ := h
    rw [State.freeSlot, List.find?_isSome]
    exact ⟨k, List.mem_finRange k, by simp [hk]⟩
  obtain ⟨k, hk⟩ := Option.isSome_iff_exists.mp hex
  refine ⟨k, slot_of_freeSlot hk, fun j hj hn => ?_⟩
  obtain ⟨_, i, hi, hget, hbefore⟩ := List.find?_eq_some_iff_getElem.mp hk
  have hik : i = k.val := by
    rw [← hget]
    simp
  have := hbefore j.val (by rw [hik]; exact hj)
  simp [hn] at this

/-! ### Requests just taken (R105)

Taking a request in changes nothing that a decision reads but the list of admitted requests. -/

theorem LiesIn.takeIn {s : State} {w : WindowIdx} {l : Line} (r : SysRequest) (h : LiesIn s w l) :
    LiesIn (takeIn r s) w l := ⟨h.live, h.inside, h.alone, h.noRing⟩

theorem Tracked.takeIn {s : State} {w : WindowIdx} {r : SysRequest} (h : Tracked s w r) : Tracked (takeIn r s) w r :=
  ⟨h.lies.takeIn r, h.allowed⟩

theorem takeIn_turnedAway (w : WindowIdx) (r : SysRequest) (s : State) :
    turnedAway w r.requester r.line (takeIn r s) = takeIn r (turnedAway w r.requester r.line s) := by
  unfold turnedAway
  simp only
  split
  · rename_i h
    exact (if_pos (show (s.window w).ring.full = true from h) ▸ rfl)
  · rename_i h
    exact (if_neg (show ¬(s.window w).ring.full = true from h) ▸ rfl)

/-- A request just taken in and answered at once leaves the admitted requests as they were. -/
theorem answerFault_takeIn {r : SysRequest} {s : State} (h : (r.requester, r.tag) ∉ s.admitted) :
    answerFault r (takeIn r s) = { s with
      responses := s.responses ++ [{ requester := r.requester, tag := r.tag, status := .fault, data := none }] } := by
  have hmem : (r.requester, r.tag) ∈ (takeIn r s).admitted := List.mem_append_right _ (List.mem_singleton.mpr rfl)
  have herase : (takeIn r s).admitted.erase (r.requester, r.tag) = s.admitted := by
    show (s.admitted ++ [(r.requester, r.tag)]).erase _ = _
    rw [List.erase_append_right _ h]
    simp
  rw [answerFault, answer_of_mem _ _ _ _ _ hmem, herase]
  rfl

/-! ### Refused writes (R108, R110) -/

/-- Settles O29: classification alone refuses both. -/
theorem trespassAndDeniedWritesAreRefused : Obligations.TrespassAndDeniedWritesAreRefused := by
  unfold Obligations.TrespassAndDeniedWritesAreRefused
  refine ⟨fun w r data enables s h ho hs hc ha => ?_, fun w r data enables s h ho hl hc => ?_⟩
  · have hd := decideFresh_of_trespass (s := takeIn r s) s.park (by rw [ho]; rfl) (ringAreaOf_of_alone hs hc ha)
    rw [answerFault_takeIn h.freshTag] at hd
    exact exec_of_gone h hd
  · have hd := decideFresh_of_denied (s := takeIn r s) s.park (by rw [ho]; rfl) (hl.takeIn r) hc
    rw [answerFault_takeIn h.freshTag] at hd
    exact exec_of_gone h hd

/-! ### Requests that are forwarded (R108, R115, R116) -/

/-- The decision of an untracked request whose line is free. -/
theorem exec_of_untracked_free {r : SysRequest} {s : State} (h : TakenFresh r s) (hc : classify s r = .untracked)
    (hf : lineFree s r.line) : exec (.systemRequest r) s = .next (forward r (takeIn r s)) := by
  have hd := decideFresh_of_untracked (s := takeIn r s) s.park hc
  rw [placeOpen_none_of_free (s := takeIn r s) ((lineFree_iff s r.line).mp hf)] at hd
  exact exec_of_gone h hd

/-- Settles O30, by where the request lies and the state of its window. -/
theorem trafficWithoutACaptureIsForwarded : Obligations.TrafficWithoutACaptureIsForwarded := by
  unfold Obligations.TrafficWithoutACaptureIsForwarded
  refine ⟨fun r s h hf hcase => ?_, fun w r data enables s h ho hl ha hc hf hhit => ?_⟩
  · have hfree : lineBusy s.park (takeIn r s) r.line = false := (lineFree_iff s r.line).mp hf
    rcases hcase with hread | hout | ⟨w, hl, hc, hstate⟩
    · exact exec_of_untracked_free h (classify_untracked (.inl hread)) hf
    · exact exec_of_untracked_free h (classify_untracked (.inr hout)) hf
    · have hd := decideFresh_of_tracked s.park (Tracked.takeIn ⟨hl, hc⟩)
      rcases hstate with hdef | hdis | ⟨harm, hread⟩
      · rw [placementDecision_of_open (s := takeIn r s) _ _ _ (.inl hdef), placeOpen_none_of_free hfree] at hd
        exact exec_of_gone h hd
      · rw [placementDecision_of_open (s := takeIn r s) _ _ _ (.inr hdis), placeOpen_none_of_free hfree] at hd
        exact exec_of_gone h hd
      · rw [placementDecision_of_armed (s := takeIn r s) _ _ _ harm, placeOpen_some_of_free hfree,
          placeArmed_of_read _ _ _ hread] at hd
        exact exec_of_gone h hd
  · have hfree : lineBusy s.park (takeIn r s) r.line = false := (lineFree_iff s r.line).mp hf
    have hd := decideFresh_of_tracked s.park (Tracked.takeIn ⟨hl, fun _ => hc⟩)
    rw [placementDecision_of_armed (s := takeIn r s) _ _ _ ha, placeOpen_some_of_free hfree,
      placeArmed_of_hit (s := takeIn r s) _ (by rw [ho]; rfl) hhit] at hd
    exact exec_of_gone h hd

/-! ### Requests that park (R113, R115, R117, R118) -/

/-- What a write comes to that is not a hit, in an ARMED window whose line is free. -/
theorem decideFresh_of_miss {s : State} {w : WindowIdx} {r : SysRequest} (h : Tracked s w r) (ha : (s.window w).state = .armed)
    (ho : r.op.isWrite = true) (hl : lineFree s r.line) (hf : filterHit s w r.line = false) :
    decideFresh s.park r s = (some (w, (s.window w).classes[r.requester]),
      captureSetUp w ((s.window w).classes[r.requester]) r s) := by
  rw [decideFresh_of_tracked _ h, placementDecision_of_armed _ _ _ ha,
    placeOpen_some_of_free ((lineFree_iff s r.line).mp hl), placeArmed_of_miss _ ho hf]

/-- What such a write comes to when a slot is free, the ring is full, and no release makes room (R55). -/
theorem decideFresh_of_full {s : State} {w : WindowIdx} {r : SysRequest} (h : Tracked s w r) (ha : (s.window w).state = .armed)
    (ho : r.op.isWrite = true) (hl : lineFree s r.line) (hf : filterHit s w r.line = false) (hs : ∃ k, s.slot k = none)
    (hm : makeRoom w s = s) (hr : (s.window w).capacity ≤ (s.window w).ring.occupancy) :
    decideFresh s.park r s = (some (w, (s.window w).classes[r.requester]), ringFullOutcome w r s) := by
  obtain ⟨k, hk⟩ := exists_lowestFree hs
  rw [decideFresh_of_miss h ha ho hl hf, captureSetUp_of_full _ _ (freeSlot_of_lowest hk) hm ((Window.ringIsFull_iff _).mpr hr)]

/-- The ring turns a write away: the full flag is set, and RING_FULL is produced when it was clear (R55). -/
theorem turnedAway_eq (w : WindowIdx) (q : Requester) (l : Line) (s : State) :
    turnedAway w q l s = (if (s.window w).ring.full = true then s
      else emit { kind := .ringFull, window := some w, generation := some (s.window w).openNumber,
                  requester := some q, line := some l }
        (s.setWindow w { s.window w with ring := { (s.window w).ring with full := true } })) := rfl

theorem StaysIn.park {w : WindowIdx} {s t : State} (h : StaysIn w s t) : t.park = s.park := by
  rw [h.rest]

theorem StaysIn.admitted {w : WindowIdx} {s t : State} (h : StaysIn w s t) : t.admitted = s.admitted := by
  rw [h.rest]

theorem StaysIn.responses {w : WindowIdx} {s t : State} (h : StaysIn w s t) : t.responses = s.responses := by
  rw [h.rest]

/-- Settles O32, by the reason for which the request parks. -/
theorem aRequestThatCannotProceedParks : Obligations.ARequestThatCannotProceedParks := by
  unfold Obligations.ARequestThatCannotProceedParks
  refine ⟨fun w r s h hl hc reason t hcase => ?_, fun r s h hb hcase => ?_⟩
  · have htracked : Tracked (takeIn r s) w r := Tracked.takeIn ⟨hl, hc⟩
    have hd : decideFresh s.park r (takeIn r s) =
        (some (w, (s.window w).classes[r.requester]), .parks reason, takeIn r t) ∧ t.park = s.park ∧
          t.admitted = s.admitted := by
      rcases hcase with ⟨rfl, hs, hfence, rfl⟩ | ⟨rfl, hs, hbusy, rfl⟩ | ⟨rfl, hs, hw, hfree, hmiss, hslots, rfl⟩ |
        ⟨rfl, hs, hw, hfree, hmiss, hslot, hpol, hfull, rfl⟩
      · refine ⟨?_, rfl, rfl⟩
        rw [decideFresh_of_tracked _ htracked, placementDecision_of_fence (s := takeIn r t) _ _ _ hs,
          fenced_of_hold (s := takeIn r t) _ hfence]
        rfl
      · refine ⟨?_, rfl, rfl⟩
        have hbusy' : lineBusy t.park (takeIn r t) r.line = true := by
          rw [lineFree_iff, Bool.not_eq_false] at hbusy
          exact hbusy
        rw [decideFresh_of_tracked _ htracked]
        rcases hs with hs | hs | hs
        · rw [placementDecision_of_open (s := takeIn r t) _ _ _ (.inl hs), placeOpen_of_busy _ hbusy']
          rfl
        · rw [placementDecision_of_armed (s := takeIn r t) _ _ _ hs, placeOpen_of_busy _ hbusy']
          rfl
        · rw [placementDecision_of_open (s := takeIn r t) _ _ _ (.inr hs), placeOpen_of_busy _ hbusy']
          rfl
      · exact ⟨(decideFresh_of_miss htracked hs hw hfree hmiss).trans
          (congrArg _ (captureSetUp_of_noSlot _ _ (freeSlot_of_full hslots))), rfl, rfl⟩
      · have hroom : makeRoom w (takeIn r s) = takeIn r s :=
          makeRoom_of_policy w _ (show (s.window w).policy ≠ .reclaim by simp [hpol])
        have hd := decideFresh_of_full htracked hs hw hfree hmiss hslot hroom hfull
        rw [ringFullOutcome_of_hold (s := takeIn r s) _ hpol, takeIn_turnedAway] at hd
        rw [← turnedAway_eq]
        exact ⟨hd, (staysIn_turnedAway ..).park, (staysIn_turnedAway ..).admitted⟩
    obtain ⟨hd, hpark, hadm⟩ := hd
    have hout := exec_of_parks h hd
    refine ⟨fun hlen => (hout.1 hlen).trans ?_, hout.2⟩
    simp only [takeIn, hpark, hadm]
  · have hd := decideFresh_of_untracked (s := takeIn r s) s.park (classify_untracked hcase)
    have hbusy : lineBusy s.park (takeIn r s) r.line = true := by
      rw [lineFree_iff, Bool.not_eq_false] at hb
      exact hb
    rw [placeOpen_of_busy _ hbusy] at hd
    exact exec_of_parks h hd

/-! ### Closed windows (R115, R117, R55, R57, R58) -/

/-- The stores that a request which is not placed leaves alone. -/
def SameStores (s t : State) : Prop :=
  t.forwardQ = s.forwardQ ∧ t.captureQ = s.captureQ ∧ t.slots = s.slots ∧ t.windows = s.windows ∧ t.table = s.table

theorem SameStores.refl (s : State) : SameStores s s := ⟨rfl, rfl, rfl, rfl, rfl⟩

/-- A request of a window that takes none is answered or parks, and changes no store on the way. -/
theorem sameStores_closed {s : State} {w : WindowIdx} (older : List ParkEntry) (c : ReqClass) (r : SysRequest)
    (h : (s.window w).state = .rewinding ∨ (s.window w).state = .paused ∨ (s.window w).state = .faulted) :
    SameStores s (placementDecision older (some (w, c)) r s).2 := by
  have hfence : SameStores s (fenced w r s).2 := by
    unfold fenced
    split
    · exact .refl s
    · exact ⟨rfl, rfl, rfl, rfl, rfl⟩
  rcases h with h | h | h
  · rw [placementDecision_of_fence _ _ _ (.inl h)]
    exact hfence
  · rw [placementDecision_of_fence _ _ _ (.inr h)]
    exact hfence
  · rw [placementDecision_of_faulted _ _ _ h]
    exact ⟨rfl, rfl, rfl, rfl, rfl⟩

theorem sameStores_decideFresh {s : State} {w : WindowIdx} (older : List ParkEntry) {r : SysRequest} (hl : LiesIn s w r.line)
    (h : (s.window w).state = .rewinding ∨ (s.window w).state = .paused ∨ (s.window w).state = .faulted) :
    SameStores s (decideFresh older r s).2.2 := by
  unfold decideFresh
  rw [classify_liesIn hl]
  split
  · rename_i u hu
    split at hu <;> exact nomatch hu
  · exact ⟨rfl, rfl, rfl, rfl, rfl⟩
  · rename_i hu
    split at hu <;> exact nomatch hu
  · rename_i u c hu
    split at hu
    · exact nomatch hu
    · obtain ⟨rfl, rfl⟩ := Classified.tracked.inj hu
      exact sameStores_closed older _ r h

theorem sameStores_arrive {s : State} {w : WindowIdx} {r : SysRequest} (hl : LiesIn s w r.line)
    (h : (s.window w).state = .rewinding ∨ (s.window w).state = .paused ∨ (s.window w).state = .faulted) :
    SameStores s (arrive r s) := by
  have hd : SameStores (takeIn r s) (decideFresh s.park r (takeIn r s)).2.2 := sameStores_decideFresh _ (hl.takeIn r) h
  unfold arrive
  split
  · exact ⟨rfl, rfl, rfl, rfl, rfl⟩
  · split
    · exact ⟨rfl, rfl, rfl, rfl, rfl⟩
    · split
      · rename_i hv
        rw [hv] at hd
        exact hd
      · rename_i hv
        rw [hv] at hd
        split
        · exact hd
        · exact ⟨rfl, rfl, rfl, rfl, rfl⟩

theorem makeRoom_of_unclosed {w : WindowIdx} {s : State}
    (h : ∀ m rest, (s.window w).gens = m :: rest → m.state ≠ .closed) : makeRoom w s = s := by
  have hclosed : (s.window w).oldestClosed = false := by
    rw [← Bool.not_eq_true, Window.oldestClosed_iff]
    rintro ⟨m, rest, hg, hm⟩
    exact h m rest hg hm
  unfold makeRoom
  split
  · exact reclaimLoop_of_unclosed w _ _ hclosed
  · rfl

/-- Settles O33: first by what turns the request away, then for every request of a closed window. -/
theorem closedWindowsAnswerFault : Obligations.ClosedWindowsAnswerFault := by
  unfold Obligations.ClosedWindowsAnswerFault
  refine ⟨fun w r s t h hl hc hcase => ?_, fun w r s t ho hl hs he => ?_⟩
  · have htracked : Tracked (takeIn r s) w r := Tracked.takeIn ⟨hl, hc⟩
    have hd : decideFresh s.park r (takeIn r s) =
        (some (w, (s.window w).classes[r.requester]), .gone, answerFault r (takeIn r t)) ∧ t.admitted = s.admitted ∧
          t.responses = s.responses := by
      rcases hcase with ⟨hs, rfl⟩ | ⟨hs, hfence, rfl⟩ | ⟨hs, hw, hfree, hmiss, hslot, hfull, hpol, rfl⟩
      · refine ⟨?_, rfl, rfl⟩
        rw [decideFresh_of_tracked _ htracked, placementDecision_of_faulted (s := takeIn r t) _ _ _ hs]
        rfl
      · refine ⟨?_, rfl, rfl⟩
        rw [decideFresh_of_tracked _ htracked, placementDecision_of_fence (s := takeIn r t) _ _ _ hs,
          fenced_of_refuse (s := takeIn r t) _ hfence]
        rfl
      · have hroom : makeRoom w (takeIn r s) = takeIn r s := by
          rcases hpol with hpol | ⟨-, hold⟩
          · exact makeRoom_of_policy w _ (show (s.window w).policy ≠ .reclaim by simp [hpol])
          · exact makeRoom_of_unclosed (s := takeIn r s) hold
        have hd := decideFresh_of_full htracked hs hw hfree hmiss hslot hroom hfull
        rw [ringFullOutcome_of_not_hold (s := takeIn r s) _ (hpol.imp id And.left), takeIn_turnedAway] at hd
        rw [← turnedAway_eq]
        exact ⟨hd, (staysIn_turnedAway ..).admitted, (staysIn_turnedAway ..).responses⟩
    obtain ⟨hd, hadm, hres⟩ := hd
    rw [answerFault_takeIn (by rw [hadm]; exact h.freshTag), hres] at hd
    exact exec_of_gone h hd
  · have hexec : exec (.systemRequest r) s = .next (if canTake s then arrive r (settle s) else s) := rfl
    rw [hexec, settle_of_not_owed ho] at he
    cases he
    split
    · exact sameStores_arrive hl hs
    · exact SameStores.refl s

end Sys2Proof.Machine
end

section
/-! Writes that are captured (R30, R31, R51, R52, R58): the placement of a capture, and the room that RECLAIM makes for it. -/

namespace Sys2Proof.Machine

open Sys2Proof

/-! ### The placement of a capture -/

/-- The record of an ARMED window after a capture whose trigger has a class (R31, R51, R92). -/
def Window.afterCapture (c : ReqClass) (v : Window) : Window := { v.captured with timer := v.timerAfterPlacement c }

theorem timerAfterPlacement_captured (v : Window) (c : ReqClass) :
    v.captured.timerAfterPlacement c = v.timerAfterPlacement c := rfl

theorem Window.captured_gens (v : Window) : v.captured.gens = v.gens.map (fun e => if e.state = .opened then
    { e with
      recordCount := e.recordCount + 1, slotsPending := e.slotsPending + 1
      firstSeq := if e.firstSeq.isNone then some v.ring.nextSeq else e.firstSeq }
    else e) := by
  simp only [Window.captured, mapOpen, List.map_map]
  refine List.map_congr_left fun e _ => ?_
  simp only [Function.comp_apply]
  by_cases h : e.state = .opened
  · simp only [h, if_true, GenEntry.addRecord, GenEntry.addSlot]
  · simp only [h, if_false]

/-- The state after the placement of a capture, but for RING_HIGH. -/
def withPlacement (k : SlotIdx) (w : WindowIdx) (c : ReqClass) (r : SysRequest) (s : State) : State :=
  { (s.setWindow w ((s.window w).afterCapture c)).setSlot k (some (slotFor w (s.window w) r)) with
    captureQ := s.captureQ ++ [{ owner := .capture k .captureRead, line := r.line, op := .read }] }

theorem reportPlacement_withCapture (k : SlotIdx) (w : WindowIdx) (c : ReqClass) (r : SysRequest) (s : State) :
    reportPlacement w c (withCapture k w r s) = withPlacement k w c r s := by
  have hw : (withCapture k w r s).window w = (s.window w).captured := window_setWindow_self s w _
  unfold reportPlacement State.modWindow
  rw [hw]
  simp [timerAfterPlacement_captured, withCapture, withPlacement, State.setWindow, State.setSlot, Vector.set_set,
    Window.afterCapture]

theorem placeCapture_cases (k : SlotIdx) (w : WindowIdx) (c : ReqClass) (r : SysRequest) (s : State) :
    placeCapture k w c r s = (if (s.window w).highDue then emit (ringHighEvent w (s.window w)) (withPlacement k w c r s)
      else withPlacement k w c r s) := by
  rw [placeCapture_eq, ← reportPlacement_withCapture]
  split <;> rfl

theorem placeCapture_window (k : SlotIdx) (w : WindowIdx) (c : ReqClass) (r : SysRequest) (s : State) :
    (placeCapture k w c r s).window w = (s.window w).afterCapture c := by
  have h : (withPlacement k w c r s).window w = (s.window w).afterCapture c := window_setWindow_self s w _
  rw [placeCapture_cases]
  split
  · exact h
  · exact h

theorem placeCapture_slot (k : SlotIdx) (w : WindowIdx) (c : ReqClass) (r : SysRequest) (s : State) :
    (placeCapture k w c r s).slot k = some (slotFor w (s.window w) r) := by
  have h : (withPlacement k w c r s).slot k = some (slotFor w (s.window w) r) := slot_setSlot_self _ k _
  rw [placeCapture_cases]
  split
  · exact h
  · exact h

/-- The placement of a capture leaves the port's lists as they are. -/
theorem placeCapture_port (k : SlotIdx) (w : WindowIdx) (c : ReqClass) (r : SysRequest) (s : State) :
    (placeCapture k w c r s).admitted = s.admitted ∧ (placeCapture k w c r s).responses = s.responses ∧
      (placeCapture k w c r s).park = s.park := by
  rw [placeCapture_cases]
  split <;> exact ⟨rfl, rfl, rfl⟩

/-- It produces RING_HIGH, or no event. -/
theorem placeCapture_events (k : SlotIdx) (w : WindowIdx) (c : ReqClass) (r : SysRequest) (s : State) :
    ∃ more, (placeCapture k w c r s).events = s.events ++ more := by
  rw [placeCapture_cases]
  split
  · by_cases h : s.events.length < 64
    · rw [emit_of_room _ _ (show (withPlacement k w c r s).events.length < 64 from h)]
      exact ⟨_, rfl⟩
    · rw [emit_of_full _ _ (show 64 ≤ (withPlacement k w c r s).events.length from Nat.not_lt.mp h)]
      exact ⟨[], (List.append_nil _).symm⟩
  · exact ⟨[], (List.append_nil _).symm⟩

theorem Window.highDue_iff (v : Window) :
    v.highDue = true ↔ v.ring.high = false ∧ v.ring.occupancy + 1 = v.highThreshold := by
  simp [Window.highDue]

/-- Settles O31: the ring has room, so the capture set-up makes no release. -/
theorem aFilterMissIsCaptured : Obligations.AFilterMissIsCaptured := by
  unfold Obligations.AFilterMissIsCaptured
  intro w k r data enables s t h ho hl ha hc hf hmiss hk hroom ht
  have hset : captureSetUp w ((s.window w).classes[r.requester]) r (takeIn r s) =
      (.gone, placeCapture k w ((s.window w).classes[r.requester]) r (takeIn r s)) := by
    have hnotFull : ((takeIn r s).window w).ringIsFull = false := (Window.ringIsFull_eq_false _).mpr hroom
    have hmade := makeRoom_of_room w (takeIn r s) hnotFull
    rw [captureSetUp_of_room _ _ (freeSlot_of_lowest (s := takeIn r s) hk) (by rw [hmade]; exact hnotFull), hmade]
  have hd := (decideFresh_of_miss (Tracked.takeIn ⟨hl, fun _ => hc⟩) ha (by rw [ho]; rfl) hf hmiss).trans (congrArg _ hset)
  refine (exec_of_gone h hd).trans (congrArg Host.Outcome.next ?_)
  have hplaced : withPlacement k w ((s.window w).classes[r.requester]) r (takeIn r s) = t := by
    rw [ht, ← Window.captured_gens]
    simp only [withPlacement, slotFor, triggerOf, ho]
    rfl
  rw [placeCapture_cases, hplaced]
  exact if_congr (Window.highDue_iff _) rfl rfl

/-! ### Room made by RECLAIM (R58, R60) -/

/-- The full ring of a RECLAIM window whose oldest generation is CLOSED and holds records gives way to a write by one release. -/
theorem makeRoom_of_closed {w : WindowIdx} {s : State} {m : GenEntry} {rest : List GenEntry}
    (hp : (s.window w).policy = .reclaim) (hfull : (s.window w).ring.occupancy = (s.window w).capacity)
    (hcap : 0 < (s.window w).capacity) (hg : (s.window w).gens = m :: rest) (hm : m.state = .closed)
    (hc : 0 < m.recordCount) :
    makeRoom w s = releaseOldest w .reclaim s ∧ ((releaseOldest w .reclaim s).window w).ringIsFull = false := by
  have hroom : ((releaseOldest w .reclaim s).window w).ringIsFull = false := by
    rw [Window.ringIsFull_eq_false, releaseOldest_of_records _ hg hc]
    simp only [raiseTrigger_window, emit_window, window_setWindow_self]
    show (s.window w).ring.occupancy - m.recordCount < (s.window w).capacity
    omega
  have hfirst : (s.window w).ringIsFull = true ∧ (s.window w).oldestClosed = true :=
    ⟨(Window.ringIsFull_iff _).mpr hfull.ge, (Window.oldestClosed_iff _).mpr ⟨m, rest, hg, hm⟩⟩
  refine ⟨?_, hroom⟩
  rw [makeRoom, if_pos hp, hg, List.length_cons, reclaimLoop, if_pos hfirst, reclaimLoop_of_room w _ _ hroom]

/-- Settles O34: one release makes the room that the capture takes. -/
theorem reclaimMakesRoomForTheCapture : Obligations.ReclaimMakesRoomForTheCapture := by
  unfold Obligations.ReclaimMakesRoomForTheCapture
  intro w m rest r data enables s h ho hl ha hc hf hmiss hslot hp hfull hcap hg hm hrec
  obtain ⟨k, hk⟩ := exists_lowestFree hslot
  have hmade := makeRoom_of_closed (s := takeIn r s) hp hfull hcap hg hm hrec
  have hset := captureSetUp_of_room ((s.window w).classes[r.requester]) r (freeSlot_of_lowest (s := takeIn r s) hk)
    (by rw [hmade.1]; exact hmade.2)
  rw [hmade.1] at hset
  have hd := (decideFresh_of_miss (Tracked.takeIn ⟨hl, fun _ => hc⟩) ha (by rw [ho]; rfl) hf hmiss).trans (congrArg _ hset)
  have hrel := releaseOldest_of_records .reclaim (s := takeIn r s) hg hrec
  have hstays := staysIn_releaseOldest w .reclaim (takeIn r s)
  obtain ⟨hadm, hres, hpark⟩ := placeCapture_port k w ((s.window w).classes[r.requester]) r
    (releaseOldest w .reclaim (takeIn r s))
  obtain ⟨more, hmore⟩ := placeCapture_events k w ((s.window w).classes[r.requester]) r
    (releaseOldest w .reclaim (takeIn r s))
  have hwin : (releaseOldest w .reclaim (takeIn r s)).window w = _ :=
    (congrArg (fun u => State.window u w) hrel).trans (window_setWindow_self (takeIn r s) w _)
  refine ⟨k, _, hk, exec_of_gone h hd, fun hroom => ⟨more, ?_⟩, ?_, ?_, ?_, ?_, ?_, ?_, ?_, ?_⟩
  · rw [hmore, hrel]
    show (emit _ _).events ++ more = _
    rw [emit_of_room _ _ (by exact hroom)]
    exact List.append_assoc _ [_] more
  · rw [placeCapture_window, hwin]
    rfl
  · rw [placeCapture_window, hwin]
    show (s.window w).ring.occupancy - m.recordCount + 1 = _
    rw [hfull]
  · rw [placeCapture_window, hwin]
    rfl
  · rw [placeCapture_window, hwin]
    show ((mapOpen _ (mapOpen _ rest)).map (·.number)) = _
    simp only [mapOpen, List.map_map]
    refine List.map_congr_left fun e _ => ?_
    simp only [Function.comp_apply]
    by_cases he : e.state = .opened
    · simp only [he, if_true, GenEntry.addRecord, GenEntry.addSlot]
    · simp only [he, if_false]
  · rw [placeCapture_slot, hwin]
    rfl
  · rw [hadm, hstays.admitted]
    exact List.mem_append_right _ (List.mem_singleton.mpr rfl)
  · rw [hres, hstays.responses]
    rfl
  · rw [hpark, hstays.park]
    rfl

end Sys2Proof.Machine
end

section
/-! The handshakes of the system port (R104, R105, R120, R190) and the decisions of a re-examination (R119, R120, R193 to R196). -/

namespace Sys2Proof.Machine

open Sys2Proof

/-! ### What every decision keeps -/

/-- The reset pins read the same, and a trigger that waits for a pass still waits for one. -/
structure KeepsTrigger (s t : State) : Prop where
  por : t.por = s.por
  srst : t.srst = s.srst
  due : s.reexamDue = true → t.reexamDue = true

theorem KeepsTrigger.refl (s : State) : KeepsTrigger s s := ⟨rfl, rfl, id⟩

theorem KeepsTrigger.trans {s t u : State} (h : KeepsTrigger s t) (k : KeepsTrigger t u) : KeepsTrigger s u :=
  ⟨k.por.trans h.por, k.srst.trans h.srst, k.due ∘ h.due⟩

theorem Decision.keepsTrigger {s t : State} (h : Decision s t) : KeepsTrigger s t := by
  cases h with
  | window => exact ⟨rfl, rfl, id⟩
  | event => exact ⟨rfl, rfl, id⟩
  | trigger => exact ⟨rfl, rfl, fun hs => by simp [raiseTrigger, hs]⟩
  | answer => exact ⟨rfl, rfl, id⟩
  | forward => exact ⟨rfl, rfl, id⟩
  | capture => exact ⟨rfl, rfl, id⟩

theorem Decisions.keepsTrigger {s t : State} (h : Decisions s t) : KeepsTrigger s t := by
  induction h with
  | refl => exact .refl s
  | tail _ hd ih => exact ih.trans hd.keepsTrigger

theorem keepsTrigger_arrive (r : SysRequest) (s : State) : KeepsTrigger s (arrive r s) := by
  have htaken : KeepsTrigger s (takeIn r s) := ⟨rfl, rfl, id⟩
  have hd := htaken.trans (decisions_decideFresh s.park r (takeIn r s)).keepsTrigger
  unfold arrive
  split
  · exact ⟨rfl, rfl, id⟩
  · split
    · exact ⟨rfl, rfl, id⟩
    · split
      · rename_i hv
        rw [hv] at hd
        exact hd
      · rename_i hv
        rw [hv] at hd
        split
        · exact ⟨hd.por, hd.srst, hd.due⟩
        · exact ⟨rfl, rfl, id⟩

theorem keepsTrigger_decideWaiting (s : State) : KeepsTrigger s (decideWaiting s) := by
  unfold decideWaiting
  split
  · exact .refl s
  · refine KeepsTrigger.trans ?_ (keepsTrigger_arrive _ _)
    exact ⟨rfl, rfl, id⟩

theorem keepsTrigger_decideEntry (n : Nat) (e : ParkEntry) (s : State) : KeepsTrigger s (decideEntry n e s) := by
  have hd := (decisions_decideParked (s.park.take n) e s).keepsTrigger
  unfold decideEntry
  split
  · rename_i hv
    rw [hv] at hd
    exact ⟨hd.por, hd.srst, hd.due⟩
  · rename_i hv
    rw [hv] at hd
    exact ⟨hd.por, hd.srst, hd.due⟩

/-- A decision of a pass, seen from the pass that has begun. -/
theorem keepsTrigger_passStep (s : State) : KeepsTrigger (beginPass s) (passStep s) := by
  unfold passStep
  simp only
  split
  · exact keepsTrigger_decideEntry _ _ _
  · refine KeepsTrigger.trans ?_ (keepsTrigger_decideWaiting _)
    exact ⟨rfl, rfl, id⟩

theorem beginPass_resets (s : State) : (beginPass s).por = s.por ∧ (beginPass s).srst = s.srst := by
  unfold beginPass
  split <;> exact ⟨rfl, rfl⟩

theorem passStep_resets (s : State) : (passStep s).por = s.por ∧ (passStep s).srst = s.srst := by
  have h := keepsTrigger_passStep s
  exact ⟨h.por.trans (beginPass_resets s).1, h.srst.trans (beginPass_resets s).2⟩

theorem passSteps_resets (n : Nat) (s : State) : (passSteps n s).por = s.por ∧ (passSteps n s).srst = s.srst := by
  induction n generalizing s with
  | zero => exact ⟨rfl, rfl⟩
  | succ n ih => exact ⟨(ih _).1.trans (passStep_resets s).1, (ih _).2.trans (passStep_resets s).2⟩

theorem settle_resets (s : State) : (settle s).por = s.por ∧ (settle s).srst = s.srst := by
  obtain ⟨n, hn⟩ := settle_is_passes s
  rw [hn]
  clear hn
  induction n generalizing s with
  | zero => exact ⟨rfl, rfl⟩
  | succ n ih =>
    rw [Function.iterate_succ_apply]
    exact ⟨(ih _).1.trans (passSteps_resets _ s).1, (ih _).2.trans (passSteps_resets _ s).2⟩

/-! ### The port's handshakes -/

theorem canTake_iff (s : State) : canTake s = true ↔
    s.por = false ∧ s.srst = false ∧ s.waiting = none ∧ s.admitted.length + s.responses.length < 64 := by
  simp [canTake, and_assoc]

theorem exec_systemRequest_eq (r : SysRequest) (s : State) :
    exec (.systemRequest r) s = .next (if canTake s then arrive r (settle s) else s) := rfl

/-- A port that takes a request still takes it once the passes owed are made. -/
theorem canTake_settle {s : State} (h : canTake s = true) : canTake (settle s) = true := by
  obtain ⟨hp, hs, hw, hl⟩ := (canTake_iff s).mp h
  obtain ⟨hw', hl'⟩ := portHolds_settle (n := s.admitted.length + s.responses.length) ⟨hw, rfl⟩
  exact (canTake_iff _).mpr ⟨(settle_resets s).1.trans hp, (settle_resets s).2.trans hs, hw', hl' ▸ hl⟩

theorem idle_of_owed {s : State} (hp : s.por = false) (ho : passOwed s = true) : idle s = passStep s := by
  simp [idle, unlessPor, hp, ho]

theorem passOwed_of_pass {s : State} (h : s.pass ≠ none) : passOwed s = true := by
  simp [passOwed, Option.isSome_iff_ne_none.mpr h]

theorem systemRequestAccept_of_none (r : SysRequest) {s : State} (h : s.waiting = none) :
    systemRequestAccept r s = (canTake s && (arrive r (settle s)).waiting.isNone) := by
  simp only [systemRequestAccept, h]

theorem systemRequestAccept_of_waiting {r : SysRequest} {s : State} (h : s.waiting = some r) :
    systemRequestAccept r s = (!s.por && s.pass == some s.park.length && (passStep s).waiting.isNone) := by
  simp [systemRequestAccept, h]

theorem systemRequestAccept_of_por (r : SysRequest) {s : State} (h : s.por = true) : systemRequestAccept r s = false := by
  unfold systemRequestAccept
  split <;> simp [canTake, h]

/-- Settles O35: `canTake` is what opens the port, and a re-examination leaves it open. -/
theorem theSystemPortTakesAndDelivers : Obligations.TheSystemPortTakesAndDelivers := by
  unfold Obligations.TheSystemPortTakesAndDelivers
  refine ⟨fun r s h => ?_, fun r s hp hs hw hl _ => ?_, fun r s => ⟨systemRequestAccept_of_por r, fun hw h => ?_,
    fun hp hs hw hl => ?_, fun hp hq hw => ⟨fun hn => ?_, fun hn => ?_⟩⟩, fun r rest s hp hr => ⟨?_, ?_⟩⟩
  · have hclosed : ¬canTake s = true := by
      rw [canTake_iff]
      rintro ⟨-, hs, hw, hl⟩
      rcases h with h | h | h
      · simp [hs] at h
      · exact h hw
      · omega
    rw [exec_systemRequest_eq, if_neg hclosed]
  · obtain ⟨n, hn⟩ := settle_is_passes s
    have htake := (canTake_iff s).mpr ⟨hp, hs, hw, hl⟩
    refine ⟨n, settle s, hn, settle_settles s, ?_⟩
    rw [exec_systemRequest_eq, exec_systemRequest_eq, if_pos htake, if_pos (canTake_settle htake),
      settle_of_not_owed (settle_settles s)]
  · have hclosed : ¬canTake s = true := by
      rw [canTake_iff]
      rintro ⟨-, hs, -, hl⟩
      rcases h with h | h
      · simp [hs] at h
      · omega
    simp [systemRequestAccept_of_none r hw, hclosed]
  · have htake := (canTake_iff s).mpr ⟨hp, hs, hw, hl⟩
    refine ⟨_, (exec_systemRequest_eq r s).trans (congrArg Host.Outcome.next (if_pos htake)), ?_⟩
    simp [systemRequestAccept_of_none r hw, htake]
  · have howed := passOwed_of_pass (s := s) (by rw [hn]; exact Option.some_ne_none _)
    refine ⟨_, (step_of_empty hq).trans (congrArg Host.Outcome.next (idle_of_owed hp howed)), ?_⟩
    simp [systemRequestAccept_of_waiting hw, hp, hn]
  · simp [systemRequestAccept_of_waiting hw, hn]
  · simp [systemResponseOut, hp, hr]
  · have hexec : exec .systemResponseDelivery s =
        .next (unlessPor (fun s => { s with responses := s.responses.tail }) s) := rfl
    rw [hexec, unlessPor, if_neg (by simp [hp]), hr]
    rfl

/-! ### A re-examination as its decisions -/

theorem exec_reExamination_of_not_owed {s : State} (h : passOwed s = false) : exec .reExamination s = .next s := by
  have hexec : exec .reExamination s = .next (unlessPor (fun s => if passOwed s then finishPass s else s) s) := rfl
  rw [hexec, unlessPor]
  simp [h]

theorem exec_reExamination_of_owed {s : State} (hp : s.por = false) (h : passOwed s = true) :
    exec .reExamination s = .next (finishPass s) := by
  have hexec : exec .reExamination s = .next (unlessPor (fun s => if passOwed s then finishPass s else s) s) := rfl
  rw [hexec, unlessPor]
  simp [hp, h]

/-- A trigger that waits while no pass is in progress begins one. -/
theorem exec_reExamination_of_due {s : State} (hp : s.por = false) (hd : s.reexamDue = true) (hn : s.pass = none) :
    exec .reExamination s = .next (finishPass { s with pass := some 0, reexamDue := false }) := by
  rw [exec_reExamination_of_owed hp (by simp [passOwed, hd]), ← finishPass_beginPass, beginPass_of_none hn]

theorem decideWaiting_pass (s : State) : (decideWaiting s).pass = s.pass := by
  unfold decideWaiting
  split
  · rfl
  · exact arrive_pass _ _

/-- A pass in progress is at an entry that it has not reached, or its next decision is its last. -/
theorem pass_at_entry_or_last {s : State} {n : Nat} (h : s.pass = some n) :
    (∃ e, s.park[n]? = some e) ∨ (finishPass s = passStep s ∧ (passStep s).pass = none) := by
  cases he : s.park[n]? with
  | some e => exact .inl ⟨e, rfl⟩
  | none =>
    have hstep : passStep s = decideWaiting { s with pass := none } := by simp [passStep, beginPass_of_some h, h, he]
    have hleft : decisionsLeft s = 1 := by
      have := List.getElem?_eq_none_iff.mp he
      simp only [decisionsLeft, h, Option.getD_some]
      omega
    refine .inr ⟨?_, ?_⟩
    · rw [finishPass, hleft, passSteps, passSteps]
    · rw [hstep, decideWaiting_pass]

/-- A re-examination is its next decision and, while its pass goes on, the rest of the pass (R120). -/
theorem finishPass_step (s : State) :
    ((passStep s).pass = none → finishPass s = passStep s) ∧
    ((passStep s).pass ≠ none → finishPass s = finishPass (passStep s)) := by
  rw [← passStep_beginPass, ← finishPass_beginPass s]
  rcases pass_at_entry_or_last (beginPass_pass s) with ⟨e, he⟩ | ⟨hlast, hnone⟩
  · have hd := decisionsLeft_decideEntry (beginPass_pass s) he
    rw [passStep_of_entry (beginPass_pass s) he, finishPass_of_entry (beginPass_pass s) he]
    refine ⟨fun hn => ?_, fun _ => rfl⟩
    rw [hn] at hd
    exact absurd hd.1 (by simp)
  · exact ⟨fun _ => hlast, fun hn => absurd hnone hn⟩

/-! ### The decision of an entry -/

theorem decideEntry_of_gone {n : Nat} {e : ParkEntry} {s t : State} {place : Option (WindowIdx × ReqClass)}
    (h : decideParked (s.park.take n) e s = (place, .gone, t)) : decideEntry n e s = { t with park := s.park.eraseIdx n } := by
  rw [decideEntry, h]

theorem decideEntry_of_parks {n : Nat} {e : ParkEntry} {s t : State} {place : Option (WindowIdx × ReqClass)}
    {reason : ParkReason} (h : decideParked (s.park.take n) e s = (place, .parks reason, t)) :
    decideEntry n e s = { t with park := s.park.set n { e with place := place, reason := reason }, pass := some (n + 1) } := by
  rw [decideEntry, h]

theorem decideParked_of_place {older : List ParkEntry} {e : ParkEntry} {p : WindowIdx × ReqClass} (s : State)
    (h : e.place = some p) : decideParked older e s = (some p, placementDecision older (some p) e.request s) := by
  simp only [decideParked, h]

theorem lineBusy_eq_true (older : List ParkEntry) (s : State) (l : Line) :
    lineBusy older s l = true ↔ lineHeld s l = true ∨ ∃ o ∈ older, o.request.line = l := by simp [lineBusy]

theorem lineBusy_eq_false (older : List ParkEntry) (s : State) (l : Line) :
    lineBusy older s l = false ↔ lineHeld s l = false ∧ ∀ o ∈ older, o.request.line ≠ l := by simp [lineBusy]

/-- An untracked entry whose line is free is forwarded. -/
theorem decideEntry_of_forward {n : Nat} {e : ParkEntry} {s : State} (hp : e.place = none) (hr : inNoRing s e.request.line)
    (hw : ∀ u, (s.window u).state ≠ .unused → (s.window u).covers e.request.line = false)
    (hl : lineHeld s e.request.line = false) (ho : ∀ o ∈ s.park.take n, o.request.line ≠ e.request.line) :
    decideEntry n e s = { s with
      park := s.park.eraseIdx n
      forwardQ := s.forwardQ ++
        [{ owner := .request e.request.requester e.request.tag, line := e.request.line, op := e.request.op }] } := by
  have hd : decideParked (s.park.take n) e s = (none, .gone, forward e.request s) := by
    rw [decideParked, hp]
    simp only
    rw [decideFresh_of_untracked _ (classify_untracked (.inr ⟨hr, hw⟩)),
      placeOpen_none_of_free ((lineBusy_eq_false _ s _).mpr ⟨hl, ho⟩)]
  exact decideEntry_of_gone hd

/-- An entry of a FAULTED window, or of one fenced under REFUSE, is answered FAULT. -/
theorem decideEntry_of_refused {n : Nat} {e : ParkEntry} {s : State} {w : WindowIdx} {c : ReqClass} (hp : e.place = some (w, c))
    (hs : (s.window w).state = .faulted ∨
      (((s.window w).state = .rewinding ∨ (s.window w).state = .paused) ∧ (s.window w).fence = .refuse))
    (hm : (e.request.requester, e.request.tag) ∈ s.admitted) :
    decideEntry n e s = { s with
      park := s.park.eraseIdx n
      admitted := s.admitted.erase (e.request.requester, e.request.tag)
      responses := s.responses ++
        [{ requester := e.request.requester, tag := e.request.tag, status := .fault, data := none }] } := by
  have hd : decideParked (s.park.take n) e s = (some (w, c), .gone, answerFault e.request s) := by
    rw [decideParked_of_place s hp]
    rcases hs with hs | ⟨hs, hf⟩
    · rw [placementDecision_of_faulted _ _ _ hs]
    · rw [placementDecision_of_fence _ _ _ hs, fenced_of_refuse _ hf]
  rw [decideEntry_of_gone hd, answerFault, answer_of_mem _ _ _ _ _ hm]

/-- An entry fenced under HOLD stays. -/
theorem decideEntry_of_fenced {n : Nat} {e : ParkEntry} {s : State} {w : WindowIdx} {c : ReqClass} (hp : e.place = some (w, c))
    (hs : (s.window w).state = .rewinding ∨ (s.window w).state = .paused) (hf : (s.window w).fence = .hold) :
    decideEntry n e s = { s with park := s.park.set n { e with reason := .fenced }, pass := some (n + 1) } := by
  have hd : decideParked (s.park.take n) e s = (e.place, .parks .fenced, s) := by
    rw [decideParked_of_place s hp, placementDecision_of_fence _ _ _ hs, fenced_of_hold _ hf, hp]
  exact decideEntry_of_parks hd

/-- An entry of an open window whose line is busy stays. -/
theorem decideEntry_of_busy {n : Nat} {e : ParkEntry} {s : State} {w : WindowIdx} {c : ReqClass} (hp : e.place = some (w, c))
    (hs : (s.window w).state = .armed ∨ (s.window w).state = .defined ∨ (s.window w).state = .disarming)
    (hb : lineHeld s e.request.line = true ∨ ∃ o ∈ s.park.take n, o.request.line = e.request.line) :
    decideEntry n e s = { s with park := s.park.set n { e with reason := .lineBusy }, pass := some (n + 1) } := by
  have hbusy := (lineBusy_eq_true (s.park.take n) s _).mpr hb
  have hd : decideParked (s.park.take n) e s = (e.place, .parks .lineBusy, s) := by
    rw [decideParked_of_place s hp]
    rcases hs with hs | hs
    · rw [placementDecision_of_armed _ _ _ hs, placeOpen_of_busy _ hbusy, hp]
    · rw [placementDecision_of_open _ _ _ hs, placeOpen_of_busy _ hbusy, hp]
  exact decideEntry_of_parks hd

/-! ### Whole passes -/

theorem passStep_of_last {s : State} (h : s.pass = some s.park.length) :
    (s.waiting = none → passStep s = { s with pass := none }) ∧
    (∀ r, s.waiting = some r → passStep s = arrive r { s with pass := none, waiting := none }) := by
  rw [passStep_of_end h]
  exact ⟨fun hw => by simp only [decideWaiting, hw], fun r hw => by simp only [decideWaiting, hw]⟩

theorem finishPass_of_last {s : State} (h : s.pass = some s.park.length) (hw : s.waiting = none) :
    finishPass s = { s with pass := none } := by
  rw [finishPass_of_end h, ← passStep_of_end h, (passStep_of_last h).1 hw]

/-- The entry held back by the fence of a window under HOLD. -/
def HeldByFence (s : State) (e : ParkEntry) : Prop :=
  ∃ w c, e.place = some (w, c) ∧ ((s.window w).state = .rewinding ∨ (s.window w).state = .paused) ∧
    (s.window w).fence = .hold

theorem set_take_drop_map {α : Type} (f : α → α) {l : List α} {n : Nat} (h : n < l.length) :
    (l.set n (f l[n])).take (n + 1) ++ ((l.set n (f l[n])).drop (n + 1)).map f = l.take n ++ (l.drop n).map f := by
  have hset : n < (l.set n (f l[n])).length := by rw [List.length_set]; exact h
  rw [List.take_succ_eq_append_getElem hset, List.take_set_of_le (le_refl n), List.getElem_set_self,
    List.drop_set_of_lt (Nat.lt_succ_self n), List.drop_eq_getElem_cons h, List.map_cons, List.append_assoc,
    List.singleton_append]

/-- A pass over entries that are all held back by a fence gives each its reason and ends. -/
theorem finishPass_of_fenced (m : Nat) {n : Nat} {s : State} (hp : s.pass = some n) (hm : n + m = s.park.length)
    (hw : s.waiting = none) (hf : ∀ e ∈ s.park.drop n, HeldByFence s e) :
    finishPass s = { s with
      pass := none, park := s.park.take n ++ (s.park.drop n).map (fun e => { e with reason := .fenced }) } := by
  induction m generalizing n s with
  | zero =>
    have hn : n = s.park.length := by omega
    subst hn
    rw [finishPass_of_last hp hw]
    simp
  | succ m ih =>
    have hlt : n < s.park.length := by omega
    have hdrop := List.drop_eq_getElem_cons hlt
    obtain ⟨w, c, hplace, hs, hhold⟩ := hf s.park[n] (by rw [hdrop]; exact List.mem_cons_self)
    have hstep := decideEntry_of_fenced (n := n) hplace hs hhold
    rw [finishPass_of_entry hp (List.getElem?_eq_getElem hlt), hstep]
    have hafter : (s.park.set n { s.park[n] with reason := .fenced }).drop (n + 1) = s.park.drop (n + 1) :=
      List.drop_set_of_lt (Nat.lt_succ_self n)
    have hrest := @ih (n + 1) { s with park := s.park.set n { s.park[n] with reason := .fenced }, pass := some (n + 1) } rfl
      (by simp; omega) hw (fun e he => by
        rw [hafter] at he
        exact hf e (by rw [hdrop]; exact List.mem_cons_of_mem _ he))
    have hlist := set_take_drop_map (fun e : ParkEntry => { e with reason := .fenced }) hlt
    exact hrest.trans (congrArg (fun p => { s with pass := none, park := p }) hlist)

/-- Settles O36, from the decision of one entry and from the passes built of such decisions. -/
theorem aReExaminationDecidesTheParkList : Obligations.AReExaminationDecidesTheParkList := by
  unfold Obligations.AReExaminationDecidesTheParkList
  refine ⟨fun s => exec_reExamination_of_not_owed, fun s hp ho => ⟨fun hq => ?_, fun hn => ?_, fun hn => ?_⟩,
    fun s hn => ?_, fun n e s hp he => ?_, fun s hp => passStep_of_last hp, fun s hp hd => ?_,
    fun e s hpor hd hp hw hpark hplace hr hu hl => ?_, fun s hpor hd hp hw hf => ?_, fun r s hpor hd hp hw hpark => ?_⟩
  · exact (step_of_empty hq).trans (congrArg Host.Outcome.next (idle_of_owed hp ho))
  · rw [exec_reExamination_of_owed hp ho, (finishPass_step s).1 hn]
  · rw [exec_reExamination_of_owed hp ho, (finishPass_step s).2 hn,
      exec_reExamination_of_owed ((passStep_resets s).1.trans hp) (passOwed_of_pass hn)]
  · rw [← passStep_beginPass, beginPass_of_none hn]
  · rw [passStep_of_entry hp he]
    exact ⟨decideEntry_of_forward, fun w c hplace hs hm => decideEntry_of_refused hplace hs hm,
      fun w c hplace hs hh => decideEntry_of_fenced hplace hs hh, fun w c hplace hs hb => decideEntry_of_busy hplace hs hb⟩
  · obtain ⟨n, hn⟩ := Option.ne_none_iff_exists'.mp hp
    have hkeeps := (keepsTrigger_passStep s).due
    rw [beginPass_of_some hn] at hkeeps
    exact hkeeps hd
  · rw [exec_reExamination_of_due hpor hd hp,
      finishPass_of_entry (n := 0) (e := e) rfl (by simp [hpark]),
      decideEntry_of_forward hplace (by exact hr) (by exact hu) (by exact hl) (fun o ho => by simp at ho),
      finishPass_of_last (by simp [hpark]) (by exact hw)]
    simp [hpark, hp]
  · rw [exec_reExamination_of_due hpor hd hp,
      finishPass_of_fenced s.park.length (n := 0) rfl (by exact Nat.zero_add _) (by exact hw) (by exact hf)]
    simp [hp]
  · rw [exec_reExamination_of_due hpor hd hp]
    have hlast : ({ s with pass := some 0, reexamDue := false } : State).pass = some s.park.length := by simp [hpark]
    rw [finishPass_of_end hlast, ← passStep_of_end hlast, (passStep_of_last hlast).2 r hw]
    simp [hp]

end Sys2Proof.Machine
end

section
/-! The quiet timers (R91 to R100), the arbiter and the controller's acceptance (R129, R133, R134), and the capture filter
(R23 to R27). -/

namespace Sys2Proof.Machine

open Sys2Proof

/-! ### The quiet timers -/

/-- Settles O37, row by row of the table. -/
theorem theTimerFollowsTheWriteTable : Obligations.TheTimerFollowsTheWriteTable := by
  unfold Obligations.TheTimerFollowsTheWriteTable
  rintro v c loaded rfl
  refine ⟨fun h => if_pos h, fun h hr hl hp => ?_, fun h hr => ⟨?_, ?_⟩, fun h hr hl hp => ⟨?_, ?_⟩, fun hr hp => ?_⟩
  · simp [Window.timerAfterPlacement, Nat.pos_iff_ne_zero.mp h, hr, hl, hp, QuietTimer.load]
  · simp [Window.timerAfterPlacement, Nat.pos_iff_ne_zero.mp h, hr, QuietTimer.load]
  · simp [Window.timerAfterPlacement, hr]
  · simp [Window.timerAfterPlacement, Nat.pos_iff_ne_zero.mp h, hr, hl, hp, QuietTimer.load]
  · simp [Window.timerAfterPlacement, hr, hl]
  · simp [Window.timerAfterPlacement, hr, hp]

theorem exec_quietTimerExpiry_of_due {w : WindowIdx} {s : State} (hp : s.por = false) (ha : (s.window w).state = .armed)
    (hr : (s.window w).timer.running = true) (hz : (s.window w).timer.remaining = 0) :
    exec (.quietTimerExpiry w) s = .next (quietExpiry w s) := by
  have hdue := (s.window w).timer.due_iff.mpr ⟨hr, hz⟩
  have hexec : exec (.quietTimerExpiry w) s = .next (unlessPor (fun s =>
    if (s.window w).state = .armed ∧ (s.window w).timer.due = true then quietExpiry w s else s) s) := rfl
  rw [hexec, unlessPor, if_neg (by simp [hp]), if_pos ⟨ha, hdue⟩]

theorem exec_quietTimerExpiry_of_not_due {w : WindowIdx} {s : State} (h : (s.window w).timer.due = false) :
    exec (.quietTimerExpiry w) s = .next s := by
  have hexec : exec (.quietTimerExpiry w) s = .next (unlessPor (fun s =>
    if (s.window w).state = .armed ∧ (s.window w).timer.due = true then quietExpiry w s else s) s) := rfl
  rw [hexec, unlessPor]
  simp [h]

theorem quietExpiry_of_manual {w : WindowIdx} {s : State} (h : (s.window w).autoClose = false) :
    quietExpiry w s = emit { kind := .quietExpired, window := some w, generation := some (s.window w).openNumber,
                             exhausted := some false }
      (s.setWindow w { s.window w with timer := QuietTimer.stop true }) := if_pos h

theorem quietExpiry_of_closing {w : WindowIdx} {s : State} (h : (s.window w).autoClose = true)
    (hc : (s.window w).hasClosing = true) :
    quietExpiry w s = s.setWindow w { s.window w with timer := QuietTimer.stop false, quietClosePending := true } := by
  simp [quietExpiry, h, hc]

theorem quietExpiry_of_auto {w : WindowIdx} {s : State} (h : (s.window w).autoClose = true)
    (hc : (s.window w).hasClosing = false) : quietExpiry w s = quietClose w s := by
  simp [quietExpiry, h, hc]

theorem quietClose_of_exhausted {w : WindowIdx} {s : State} (h : (s.window w).exhausted = true) :
    quietClose w s = emit { kind := .quietExpired, window := some w, generation := some (s.window w).openNumber,
                            exhausted := some true }
      (s.setWindow w { s.window w with timer := QuietTimer.stop true, quietClosePending := false }) := if_pos h

theorem quietClose_of_room {w : WindowIdx} {s : State} (h : (s.window w).lastGen < 4294967295) :
    quietClose w s = closeGeneration w .quiet s := by
  have hnot : ¬(s.window w).exhausted = true := by simp [not_exhausted h]
  exact if_neg hnot

/-- A close of a window with room in its list and no slot pending: GEN_CLOSED, and the next generation opened (R11). -/
theorem closeGeneration_of_room {w : WindowIdx} {s : State} {older : List GenEntry} {e : GenEntry} (k : CloseCause)
    (hg : (s.window w).gens = older ++ [e]) (he : e.state = .opened) (ho : ∀ o ∈ older, o.state = .closed)
    (hn : e.slotsPending = 0) (hd : older.length + 2 ≤ (s.window w).depth) :
    closeGeneration w k s = emit (genClosedEvent w e.number k) (s.setWindow w ((s.window w).closedLast k older e)) := by
  have hkept : depthRule w (withClosed w k older e s) = withClosed w k older e s := by
    refine depthRule_within w _ ?_
    rw [withClosed_window]
    simpa [Window.closedLast, Window.quietStopped] using hd
  rw [closeGeneration_eq k hg he (fun o h => by simp [ho o h]), hkept, withClosed, if_neg (by omega)]

/-- Settles O38, by auto-close, CLOSING entries and numbers left. -/
theorem anExpiryClosesOrReports : Obligations.AnExpiryClosesOrReports := by
  unfold Obligations.AnExpiryClosesOrReports
  refine ⟨fun w s h => exec_quietTimerExpiry_of_not_due ?_, fun w s hp ha hr hz => ?_⟩
  · rw [← Bool.not_eq_true, QuietTimer.due_iff]
    rintro ⟨hr, hz⟩
    rcases h with h | h
    · simp [hr] at h
    · omega
  · rw [exec_quietTimerExpiry_of_due hp ha hr hz]
    refine ⟨fun hm => by rw [quietExpiry_of_manual hm]; rfl, fun hm hc => ?_, fun hm hc hl => ?_, fun hm hc hl => ?_,
      fun older e hm hg he ho hn hl hd => ?_⟩
    · rw [quietExpiry_of_closing hm ((hasClosing_iff _).mpr hc)]
      rfl
    · rw [quietExpiry_of_auto hm (hasClosing_eq_false hc), quietClose_of_exhausted ((exhausted_iff _).mpr hl)]
      rfl
    · rw [quietExpiry_of_auto hm (hasClosing_eq_false hc), quietClose_of_room hl]
    · have hc : ∀ a ∈ (s.window w).gens, a.state ≠ .closing := by
        intro a ha
        rw [hg, List.mem_append, List.mem_singleton] at ha
        rcases ha with ha | rfl
        · simp [ho a ha]
        · simp [he]
      have hentry : e.closeWith .quiet = { e with state := .closed, closeCause := some .quiet } := by
        simp [GenEntry.closeWith, hn]
      rw [quietExpiry_of_auto hm (hasClosing_eq_false hc), quietClose_of_room hl,
        closeGeneration_of_room .quiet hg he ho hn hd]
      simp only [Window.closedLast, hentry]
      rfl

/-! ### The arbiter and the controller -/

theorem somePresented_iff (s : State) : somePresented s = true ↔ ∃ u e, s.entry u = some e ∧ e.state = .presented := by
  simp only [somePresented, List.any_eq_true, mem_occupied_iff, beq_iff_eq]
  constructor
  · rintro ⟨e, ⟨u, hu⟩, he⟩
    exact ⟨u, e, hu, he⟩
  · rintro ⟨u, e, hu, he⟩
    exact ⟨e, ⟨u, hu⟩, he⟩

/-- A grant: the source's oldest request goes to the lowest FREE entry (R129, R133, R134). -/
theorem exec_arbiterGrant_of_source {k : Ticket} {m : MemRequest} {src : Source} {s : State} (hp : s.por = false)
    (hn : ∀ u e, s.entry u = some e → e.state ≠ .presented) (hk : s.entry k = none) (hl : ∀ j, j < k → s.entry j ≠ none)
    (hsrc : nextSource s = some src) (hreq : sourceRequest s src = some m) :
    exec .arbiterGrant s =
      .next { (takeFromSource s src).setEntry k (some (OutEntry.granted m)) with lastSource := src } := by
  have hnone : ¬somePresented s = true := by
    rw [somePresented_iff]
    rintro ⟨u, e, hu, he⟩
    exact hn u e hu he
  have hexec : exec .arbiterGrant s = .next (unlessPor grant s) := rfl
  rw [hexec, unlessPor, if_neg (by simp [hp]), grant, if_neg hnone]
  simp only [freeEntry_of_lowest hk hl, hsrc, hreq]

/-- No grant is made while an entry is PRESENTED, none is FREE, or no source is ready. -/
theorem grant_of_none {s : State} (h : somePresented s = true ∨ s.freeEntry = none ∨ nextSource s = none) : grant s = s := by
  unfold grant
  split
  · rfl
  · rename_i hnot
    rcases h with h | h | h
    · exact absurd h hnot
    · simp [h]
    · rw [h]
      split <;> simp_all

/-- The next source, by the source granted last and by which are ready (R133). -/
theorem nextSource_of_forward {m : MemRequest} {q : List MemRequest} {s : State} (hq : s.forwardQ = m :: q)
    (h : s.lastSource = .rewind ∨ (s.lastSource = .capture ∧ s.rewindOffer = none) ∨
      (s.captureQ = [] ∧ s.rewindOffer = none)) : nextSource s = some .forward := by
  rcases h with h | ⟨h, hr⟩ | ⟨hc, hr⟩
  · simp [nextSource, sourceOrder, sourceReady, h, hq]
  · simp [nextSource, sourceOrder, sourceReady, h, hr, hq]
  · cases h : s.lastSource <;> simp [nextSource, sourceOrder, sourceReady, h, hc, hr, hq]

theorem nextSource_of_capture {m : MemRequest} {q : List MemRequest} {s : State} (hq : s.captureQ = m :: q)
    (h : s.lastSource = .forward ∨ (s.lastSource = .rewind ∧ s.forwardQ = []) ∨
      (s.forwardQ = [] ∧ s.rewindOffer = none)) : nextSource s = some .capture := by
  rcases h with h | ⟨h, hf⟩ | ⟨hf, hr⟩
  · simp [nextSource, sourceOrder, sourceReady, h, hq]
  · simp [nextSource, sourceOrder, sourceReady, h, hf, hq]
  · cases h : s.lastSource <;> simp [nextSource, sourceOrder, sourceReady, h, hf, hr, hq]

theorem nextSource_of_rewind {m : MemRequest} {s : State} (hq : s.rewindOffer = some m)
    (h : s.lastSource = .capture ∨ (s.lastSource = .forward ∧ s.captureQ = []) ∨ (s.forwardQ = [] ∧ s.captureQ = [])) :
    nextSource s = some .rewind := by
  rcases h with h | ⟨h, hc⟩ | ⟨hf, hc⟩
  · simp [nextSource, sourceOrder, sourceReady, h, hq]
  · simp [nextSource, sourceOrder, sourceReady, h, hc, hq]
  · cases h : s.lastSource <;> simp [nextSource, sourceOrder, sourceReady, h, hf, hc, hq]

theorem nextSource_of_none {s : State} (hf : s.forwardQ = []) (hc : s.captureQ = []) (hr : s.rewindOffer = none) :
    nextSource s = none := by
  have hnone : ∀ src, sourceReady s src = false := fun src => by cases src <;> simp [sourceReady, hf, hc, hr]
  simp [nextSource, hnone]

/-- The one PRESENTED entry is the one that is issued. -/
theorem presentedTicket_of_one {s : State} {k : Ticket} {e : OutEntry} (h : OnePresented s) (hk : s.entry k = some e)
    (he : e.state = .presented) : presentedTicket s = some k := by
  have hhere : ((s.entry k).any (fun e => e.state == .presented)) = true := by simp [hk, he]
  have hex : (presentedTicket s).isSome := by
    rw [presentedTicket, List.find?_isSome]
    exact ⟨k, List.mem_finRange k, hhere⟩
  obtain ⟨u, hu⟩ := Option.isSome_iff_exists.mp hex
  have hthere : ((s.entry u).any (fun e => e.state == .presented)) = true := by
    have hfound := List.find?_some hu
    exact hfound
  rw [hu, h u k hthere hhere]

/-- Settles O39, by the source that is next. -/
theorem theArbiterGrantsAndTheControllerAccepts : Obligations.TheArbiterGrantsAndTheControllerAccepts := by
  unfold Obligations.TheArbiterGrantsAndTheControllerAccepts
  refine ⟨⟨fun k m q s t hp hn hk hl ht => ⟨fun hq h => ?_, fun hq h => ?_, fun hq h => ?_⟩, fun s h => ?_⟩,
    fun k e s hp hone hk he => ⟨?_, ?_⟩⟩
  · rw [exec_arbiterGrant_of_source (m := m) hp hn hk hl (nextSource_of_forward hq h) (by simp [sourceRequest, hq]), ht]
    simp only [takeFromSource, hq]
    rfl
  · rw [exec_arbiterGrant_of_source (m := m) hp hn hk hl (nextSource_of_capture hq h) (by simp [sourceRequest, hq]), ht]
    simp only [takeFromSource, hq]
    rfl
  · rw [exec_arbiterGrant_of_source (m := m) hp hn hk hl (nextSource_of_rewind hq h) (by simp [sourceRequest, hq]), ht]
    rfl
  · have hexec : exec .arbiterGrant s = .next (unlessPor grant s) := rfl
    have hgrant : grant s = s := by
      refine grant_of_none ?_
      rcases h with h | h | ⟨hf, hc, hr⟩
      · exact .inl ((somePresented_iff s).mpr h)
      · refine .inr (.inl (List.find?_eq_none.mpr fun u _ => ?_))
        simpa using h u
      · exact .inr (.inr (nextSource_of_none hf hc hr))
    rw [hexec, unlessPor, hgrant, ite_self]
  · simp [memoryRequestOut, hp, presentedTicket_of_one hone hk he, hk]
  · have hexec : exec .memoryRequestIssue s = .next (unlessPor issue s) := rfl
    rw [hexec, unlessPor, if_neg (by simp [hp]), issue]
    simp only [presentedTicket_of_one hone hk he, hk]

/-! ### The capture filter -/

/-- A window is ARMED and its OPEN generation has this number: what makes an entry a hit and lets one be inserted (R24, R26). -/
def OpenIn (s : State) (w : WindowIdx) (g : Nat) : Prop :=
  (s.window w).state = .armed ∧ ∃ e, (s.window w).openEntry = some e ∧ e.number = g

theorem openIn_iff (s : State) (w : WindowIdx) (g : Nat) :
    ((s.window w).state == .armed && (s.window w).openEntry.any (fun e => e.number == g)) = true ↔ OpenIn s w g := by
  simp [OpenIn, Option.any_eq_true]

theorem entryLive_iff (s : State) (e : FilterEntry) : entryLive s e = true ↔ OpenIn s e.window e.generation :=
  openIn_iff s e.window e.generation

theorem filterHit_iff (s : State) (w : WindowIdx) (l : Line) : filterHit s w l = true ↔
    ∃ e ∈ filterGet s.filter (l.toNat % 2048), e.window = w ∧ e.line = l ∧ OpenIn s w e.generation := by
  simp only [filterHit, filterIndex, List.any_eq_true, Bool.and_eq_true, beq_iff_eq, entryLive_iff, and_assoc]
  refine exists_congr fun e => and_congr_right fun _ => ?_
  exact ⟨fun ⟨hw, hl, ho⟩ => ⟨hw, hl, hw ▸ ho⟩, fun ⟨hw, hl, ho⟩ => ⟨hw, hl, hw.symm ▸ ho⟩⟩

theorem filterInsert_of_not_open {w : WindowIdx} {g : Nat} (l : Line) {s : State} (h : ¬OpenIn s w g) :
    filterInsert w g l s = s := by
  rw [← openIn_iff] at h
  exact if_neg h

theorem filterInsert_of_open {w : WindowIdx} {g : Nat} (l : Line) {s : State} (h : OpenIn s w g) :
    filterInsert w g l s = { s with
      filter := filterPut s.filter (l.toNat % 2048)
        (insertInSet (entryLive s) (filterGet s.filter (l.toNat % 2048)) w g l) } := by
  rw [← openIn_iff] at h
  exact if_pos h

/-! The way that an insertion takes (R27) when no entry names the window and line. -/

/-- No entry of the set names the window and line. -/
def Unlisted (set : FilterSet) (w : WindowIdx) (l : Line) : Prop := ∀ e ∈ set, ¬(e.window = w ∧ e.line = l)

theorem Unlisted.find {set : FilterSet} {w : WindowIdx} {l : Line} (h : Unlisted set w l) :
    set.find? (fun e => e.window == w && e.line == l) = none := by
  rw [List.find?_eq_none]
  intro e he
  simpa using h e he

/-- The lowest empty way, when there is one. -/
theorem chooseWay_of_empty (live : FilterEntry → Bool) {set : FilterSet} {w : WindowIdx} {l : Line} (h : Unlisted set w l)
    {i : Fin 4} (hi : ∀ e ∈ set, e.way ≠ i) :
    (∀ e ∈ set, e.way ≠ chooseWay live set w l) ∧ chooseWay live set w l ≤ i := by
  have hempty : ∀ j, (!set.any (fun e => e.way == j)) = true ↔ ∀ e ∈ set, e.way ≠ j := fun j => by simp
  have hex : ((List.finRange 4).find? (fun i => !set.any (fun e => e.way == i))).isSome := by
    rw [List.find?_isSome]
    exact ⟨i, List.mem_finRange i, (hempty i).mpr hi⟩
  obtain ⟨j, hj⟩ := Option.isSome_iff_exists.mp hex
  have hway : chooseWay live set w l = j := by simp only [chooseWay, h.find, hj]
  obtain ⟨hp, k, hk, hget, hbefore⟩ := List.find?_eq_some_iff_getElem.mp hj
  rw [hway]
  refine ⟨(hempty j).mp hp, ?_⟩
  by_contra hlt
  have hkj : k = j.val := by rw [← hget]; simp
  have := hbefore i.val (by rw [hkj]; exact not_le.mp hlt)
  rw [List.getElem_finRange] at this
  simp only [Bool.not_not] at this
  rw [← Bool.not_eq_false, ← Bool.not_eq_true'] at this
  exact this ((hempty i).mpr hi)

/-- Every way is taken. -/
theorem noEmptyWay_of_taken {set : FilterSet} (h : ∀ i, ∃ e ∈ set, e.way = i) :
    (List.finRange 4).find? (fun i => !set.any (fun e => e.way == i)) = none := by
  rw [List.find?_eq_none]
  intro i _
  simpa using h i

theorem chooseWay_of_stale {live : FilterEntry → Bool} {older newer : FilterSet} {e : FilterEntry} {w : WindowIdx} {l : Line}
    (h : Unlisted (older ++ e :: newer) w l) (ht : ∀ i, ∃ a ∈ older ++ e :: newer, a.way = i) (hs : live e = false)
    (hl : ∀ o ∈ older, live o = true) : chooseWay live (older ++ e :: newer) w l = e.way := by
  have hfind : (older ++ e :: newer).find? (fun a => !live a) = some e := by
    rw [List.find?_append, List.find?_eq_none.mpr (fun o ho => by simp [hl o ho])]
    simp [hs]
  simp only [chooseWay, h.find, noEmptyWay_of_taken ht, hfind]

theorem chooseWay_of_live {live : FilterEntry → Bool} {e : FilterEntry} {newer : FilterSet} {w : WindowIdx} {l : Line}
    (h : Unlisted (e :: newer) w l) (ht : ∀ i, ∃ a ∈ e :: newer, a.way = i) (hl : ∀ o ∈ e :: newer, live o = true) :
    chooseWay live (e :: newer) w l = e.way := by
  have hfind : (e :: newer).find? (fun a => !live a) = none := List.find?_eq_none.mpr (fun o ho => by simp [hl o ho])
  simp only [chooseWay, h.find, noEmptyWay_of_taken ht, hfind]
  rfl

/-- Settles O40, with the way of R27 case by case. -/
theorem theFilterHitsAndLearns : Obligations.TheFilterHitsAndLearns := by
  refine ⟨fun w l s => filterHit_iff s w l, fun w g l s => filterInsert_of_not_open l, ?_⟩
  rintro w g l s t set hok hopen rfl rfl
  have hinsert := filterInsert_of_open l hopen
  have hget : ∀ i, filterGet (filterInsert w g l s).filter i = if i = l.toNat % 2048 then
      insertInSet (entryLive s) (filterGet s.filter (l.toNat % 2048)) w g l else filterGet s.filter i := fun i => by
    rw [hinsert]
    exact filterGet_filterPut _ _ _ _ ((filterCanonical_iff s.filter).mp hok.canonical).2
  have hhere := (hget (l.toNat % 2048)).trans (if_pos rfl)
  refine ⟨by rw [hinsert], ?_, fun i hi => (hget i).trans (if_neg hi),
    chooseWay (entryLive s) (filterGet s.filter (l.toNat % 2048)) w l, hhere, ?_, fun hun => ⟨fun i hi => ?_, fun htaken =>
      ⟨fun older e newer hsplit hstale hlive => ?_, fun e newer hsplit hlive => ?_⟩⟩⟩
  · rw [filterHit_iff, hhere, hinsert]
    exact ⟨_, List.mem_append_right _ (List.mem_singleton.mpr rfl), rfl, rfl, hopen⟩
  · rintro e he rfl rfl
    exact chooseWay_of_mem (hok.filterGet_ok _) _ he
  · exact chooseWay_of_empty _ hun hi
  · rw [hsplit] at hun htaken ⊢
    have hdead : entryLive s e = false := by
      rw [← Bool.not_eq_true, entryLive_iff]
      exact hstale
    exact chooseWay_of_stale hun htaken hdead (fun o ho => (entryLive_iff s o).mpr (hlive o ho))
  · rw [hsplit] at hun htaken hlive ⊢
    exact chooseWay_of_live hun htaken (fun o ho => (entryLive_iff s o).mpr (hlive o ho))

end Sys2Proof.Machine
end

section
/-! The answers of the memory port (R34 to R40, R116, R135 to R140): stray and late responses, the response to a forwarded request,
the answers of a slot's operations, and the timeout. -/

namespace Sys2Proof.Machine

open Sys2Proof

/-! ### The response of an entry, by the entry's state -/

theorem exec_memoryResponse_eq (k : Ticket) (status : MemStatus) (data : LineData) {s : State} (hp : s.por = false) :
    exec (.memoryResponse k status data) s = .next (takeResponse k status data s) :=
  congrArg Host.Outcome.next (if_neg (by simp [hp]))

theorem exec_memoryResponse_of_kept {k : Ticket} {status : MemStatus} {data : LineData} {s : State}
    (h : takeResponse k status data s = s) : exec (.memoryResponse k status data) s = .next s := by
  have hexec : exec (.memoryResponse k status data) s = .next (unlessPor (takeResponse k status data) s) := rfl
  rw [hexec, unlessPor, h, ite_self]

theorem takeResponse_of_late {k : Ticket} {e : OutEntry} {s : State} (status : MemStatus) (data : LineData)
    (he : s.entry k = some e) (hl : e.state = .late) : takeResponse k status data s = late e (s.setEntry k none) := by
  simp only [takeResponse, he, hl]

theorem takeResponse_of_waiting {k : Ticket} {e : OutEntry} {s : State} (status : MemStatus) (data : LineData)
    (he : s.entry k = some e) (hl : e.state = .waiting) :
    takeResponse k status data s = onTime e status data (s.setEntry k none) := by
  simp only [takeResponse, he, hl]

theorem reportArrival_of_holds {r : MemRequest} (s : State) (h : r.owner.holdsLine = true) :
    reportArrival r s = reportHoldEnd r.line s := if_pos h

theorem reportArrival_of_not_holds {r : MemRequest} (s : State) (h : r.owner.holdsLine = false) : reportArrival r s = s :=
  if_neg (by simp [h])

theorem reportArrival_eq (r : MemRequest) (s : State) : reportArrival r s =
    (if r.owner.holdsLine = true ∧ lineHeld s r.line = false then raiseTrigger s else s) := by
  unfold reportArrival reportHoldEnd
  cases r.owner.holdsLine <;> cases lineHeld s r.line <;> rfl

theorem freeOrphanedSlot_of_not_trigger {r : MemRequest} (s : State) (h : ∀ j, r.owner ≠ .trigger j) :
    freeOrphanedSlot r s = s := by
  unfold freeOrphanedSlot
  split
  · rfl
  · rename_i j hj
    exact absurd hj (h j)
  · rfl
  · rfl

theorem freeOrphanedSlot_of_trigger {r : MemRequest} {j : SlotIdx} {sl : Slot} {s : State} (ho : r.owner = .trigger j)
    (hs : s.slot j = some sl) (hp : sl.phase = .forwarding) (hl : sl.line = r.line) :
    freeOrphanedSlot r s = freeSlotAt j s := by
  simp [freeOrphanedSlot, ho, hs, hp, hl]

/-- Settles O41, by the state of the entry. -/
theorem strayAndLateResponsesHandNothingOver : Obligations.StrayAndLateResponsesHandNothingOver := by
  unfold Obligations.StrayAndLateResponsesHandNothingOver
  refine ⟨fun k status data s h => exec_memoryResponse_of_kept ?_, fun k status data e s hp he => ⟨fun hl ho => ?_,
    fun j sl hstate horph ho hs hph hline => ?_⟩⟩
  · rcases h with he | ⟨e, he, hpres⟩
    · simp only [takeResponse, he]
    · simp only [takeResponse, he, hpres]
  · have hnone : (if e.orphaned then freeOrphanedSlot e.request (s.setEntry k none) else s.setEntry k none) =
        s.setEntry k none := by
      rcases ho with ho | ho
      · simp [ho]
      · rw [freeOrphanedSlot_of_not_trigger _ ho, ite_self]
    rw [exec_memoryResponse_eq _ _ _ hp, takeResponse_of_late _ _ he hl, late, hnone, reportArrival_eq]
  · have hfree := freeOrphanedSlot_of_trigger (s := s.setEntry k none) ho hs hph hline
    have hholds : e.request.owner.holdsLine = true := by rw [ho]; rfl
    rw [exec_memoryResponse_eq _ _ _ hp]
    rcases hstate with hl | hw
    · rw [takeResponse_of_late _ _ he hl, late, if_pos horph, hfree, reportArrival_of_holds _ hholds]
    · rw [takeResponse_of_waiting _ _ he hw, onTime, if_pos horph, hfree, reportArrival_of_holds _ hholds]

/-! ### Forwarded requests -/

theorem sysStatusOf_eq (status : MemStatus) : sysStatusOf status = if status = .ok then .done else .fault := by
  cases status <;> rfl

theorem answerData_eq (op : MemOp) (status : MemStatus) (data : LineData) :
    answerData op status data = if status = .ok ∧ op = .read then some data else none := by
  cases op <;> cases status <;> simp [answerData]

/-- Settles O42: the owner of the request is answered, an orphan nobody. -/
theorem aForwardedRequestIsAnswered : Obligations.AForwardedRequestIsAnswered := by
  unfold Obligations.AForwardedRequestIsAnswered
  intro k q g line op n status data orphaned s hp he
  refine ⟨fun hm ho => ?_, fun ho => ?_⟩
  · subst ho
    rw [exec_memoryResponse_waiting status data hp he, reportArrival_of_holds _ (by rfl), handToOwner]
    simp only
    rw [answer_of_mem _ _ _ _ _ (by exact hm), sysStatusOf_eq, answerData_eq]
    rfl
  · rw [exec_memoryResponse_eq _ _ _ hp, takeResponse_of_waiting _ _ he rfl, onTime, if_pos ho,
      freeOrphanedSlot_of_not_trigger _ (fun _ h => Owner.noConfusion h), reportArrival_of_holds _ (by rfl)]

/-! ### The answers of a slot's operations -/

theorem captureAnswered_readOk {k : SlotIdx} {sl : Slot} {s : State} (data : LineData) (h : s.slot k = some sl) :
    captureAnswered k .captureRead .ok data s = captureReadOk k sl data s := by simp only [captureAnswered, h]

theorem captureAnswered_readError {k : SlotIdx} {sl : Slot} {s : State} (data : LineData) (h : s.slot k = some sl) :
    captureAnswered k .captureRead .error data s = captureReadFailed k sl s := by simp only [captureAnswered, h]

theorem captureAnswered_recordWrite {k : SlotIdx} {sl : Slot} {s : State} {op : CaptureOp} (status : MemStatus)
    (data : LineData) (h : s.slot k = some sl) (ho : op = .headerWrite ∨ op = .dataWrite) :
    captureAnswered k op status data s = recordWriteAnswered k op status sl s := by
  rcases ho with rfl | rfl <;> simp only [captureAnswered, h]

theorem captureAnswered_voidWrite {k : SlotIdx} {sl : Slot} {s : State} (status : MemStatus) (data : LineData)
    (h : s.slot k = some sl) : captureAnswered k .voidWrite status data s = voidWriteAnswered k status sl s := by
  simp only [captureAnswered, h]

theorem captureReadOk_of_kept {k : SlotIdx} {sl : Slot} {s : State} (data : LineData)
    (h : (s.window sl.window).state ≠ .faulted) : captureReadOk k sl data s = issueRecord k sl data s := if_neg h

theorem captureReadOk_of_faulted {k : SlotIdx} {sl : Slot} {s : State} (data : LineData)
    (h : (s.window sl.window).state = .faulted) : captureReadOk k sl data s = freeSlotAt k s := if_pos h

theorem captureReadFailed_of_kept {k : SlotIdx} {sl : Slot} {s : State} (h : (s.window sl.window).state ≠ .faulted) :
    captureReadFailed k sl s = issueVoid k sl.drop (emit (captureReadErrorEvent sl) (refuseTrigger k s)) := if_neg h

theorem captureReadFailed_of_faulted {k : SlotIdx} {sl : Slot} {s : State} (h : (s.window sl.window).state = .faulted) :
    captureReadFailed k sl s = freeSlotAt k (emit (captureReadErrorEvent sl) (refuseTrigger k s)) := if_pos h

/-- The two record-line writes in the order in which they are queued (R36, R131). -/
def queuedRecord (k : SlotIdx) (sl : Slot) (data : LineData) (s : State) : List MemRequest :=
  let header : MemRequest :=
    { owner := .capture k .headerWrite, line := (s.window sl.window).headerLine sl.position,
      op := .write (captureHeader sl data) allEnables }
  let dataWrite : MemRequest :=
    { owner := .capture k .dataWrite, line := (s.window sl.window).dataLine sl.position, op := .write data allEnables }
  if Config.headerWriteFirst s.freeCount then [header, dataWrite] else [dataWrite, header]

theorem issueRecord_eq (k : SlotIdx) (sl : Slot) (data : LineData) (s : State) : issueRecord k sl data s =
    { s.setSlot k (some { sl with phase := .recording }) with
      captureQ := s.captureQ ++ queuedRecord k sl data s, freeCount := s.freeCount + 1 } := rfl

/-- A change of a slot replaces the one before it, an answer and an event in between or not. -/
theorem setSlot_emit_answer (k : SlotIdx) (a b : Option Slot) (q : Requester) (g : Tag) (st : SysStatus) (d : Option LineData)
    (ev : EventBody) (s : State) :
    (emit ev (answer q g st d (s.setSlot k a))).setSlot k b = (emit ev (answer q g st d s)).setSlot k b := by
  have h := setSlot_setSlot s k a b
  have hslots : ((s.setSlot k a).setSlot k b).slots = (s.setSlot k b).slots := congrArg State.slots h
  show { emit ev (answer q g st d s) with slots := ((s.setSlot k a).setSlot k b).slots } = _
  rw [hslots]
  rfl

/-- The trigger of a slot is refused: it is answered FAULT, once (R35, R38, R42). -/
theorem refuseTrigger_of_slot {k : SlotIdx} {sl : Slot} {s : State} (h : s.slot k = some sl) :
    refuseTrigger k s = if sl.dropped then s
      else answer sl.trigger.requester sl.trigger.tag .fault none (s.setSlot k (some sl.drop)) := by
  simp only [refuseTrigger, h]

theorem refuseTrigger_of_dropped {k : SlotIdx} {sl : Slot} {s : State} (h : s.slot k = some sl) (hd : sl.dropped = true) :
    refuseTrigger k s = s := by rw [refuseTrigger_of_slot h, if_pos hd]

theorem refuseTrigger_of_kept {k : SlotIdx} {sl : Slot} {s : State} (h : s.slot k = some sl) (hd : sl.dropped = false) :
    refuseTrigger k s = answer sl.trigger.requester sl.trigger.tag .fault none (s.setSlot k (some sl.drop)) := by
  rw [refuseTrigger_of_slot h, if_neg (by simp [hd])]

theorem filterInsert_setSlot (w : WindowIdx) (g : Nat) (l : Line) (s : State) (k : SlotIdx) (o : Option Slot) :
    filterInsert w g l (s.setSlot k o) = (filterInsert w g l s).setSlot k o := by
  by_cases h : OpenIn s w g
  · rw [filterInsert_of_open l h, filterInsert_of_open (s := s.setSlot k o) l h]
    rfl
  · rw [filterInsert_of_not_open l h, filterInsert_of_not_open (s := s.setSlot k o) l h]

theorem filterInsert_forwardQ (w : WindowIdx) (g : Nat) (l : Line) (s : State) :
    (filterInsert w g l s).forwardQ = s.forwardQ := by
  unfold filterInsert
  split <;> rfl

/-- Settles O43, by the status and the state of the window at the answer. -/
theorem aCaptureReadIsAnswered : Obligations.ACaptureReadIsAnswered := by
  unfold Obligations.ACaptureReadIsAnswered
  rintro tk k sl line n data s s0 hp he hs rfl
  have hs0 : (s.setEntry tk none).slot k = some sl := hs
  have hexec : ∀ status, exec (.memoryResponse tk status data) s =
      .next (reportHoldEnd line (captureAnswered k .captureRead status data (s.setEntry tk none))) := fun status => by
    rw [exec_memoryResponse_waiting status data hp he, reportArrival_of_holds _ (by rfl)]
    rfl
  refine ⟨fun hf => ⟨queuedRecord k sl data s, ?_, ?_⟩, fun hf => ?_, fun hf => ⟨?_, ?_⟩⟩
  · rw [hexec, captureAnswered_readOk _ hs0, captureReadOk_of_kept _ (by exact hf), issueRecord_eq]
    rfl
  · unfold queuedRecord
    simp only
    split
    · exact List.Perm.refl _
    · exact List.Perm.swap _ _ _
  · rw [hexec, captureAnswered_readError _ hs0, captureReadFailed_of_kept (by exact hf), refuseTrigger_of_slot hs0, issueVoid]
    by_cases hd : sl.dropped = true
    · rw [if_pos hd, if_pos hd]
      rfl
    · rw [if_neg hd, if_neg hd]
      simp only [setSlot_emit_answer]
      rfl
  · rw [hexec, captureAnswered_readOk _ hs0, captureReadOk_of_faulted _ (by exact hf)]
  · rw [hexec, captureAnswered_readError _ hs0, captureReadFailed_of_faulted (by exact hf), refuseTrigger_of_slot hs0]
    rfl

/-- A write of a record line that is answered: what it leaves noted in the slot (R37, R38). -/
structure RecordWrite (k : SlotIdx) (sl noted : Slot) (req : MemRequest) (op : CaptureOp) : Prop where
  write : op = .headerWrite ∨ op = .dataWrite
  owner : req.owner = .capture k op
  ok : sl.writeAnswered op .ok = noted
  error : sl.writeAnswered op .error = { noted with writeFailed := true }
  kept : noted.window = sl.window ∧ noted.generation = sl.generation ∧ noted.line = sl.line ∧ noted.trigger = sl.trigger ∧
    noted.writeFailed = sl.writeFailed ∧ noted.dropped = sl.dropped

theorem recordWrite_of_noted {k : SlotIdx} {sl noted : Slot} {req : MemRequest}
    (h : (req.owner = .capture k .headerWrite ∧ noted = { sl with headerAnswered := true }) ∨
      (req.owner = .capture k .dataWrite ∧ noted = { sl with dataAnswered := true })) :
    ∃ op, RecordWrite k sl noted req op := by
  rcases h with ⟨ho, rfl⟩ | ⟨ho, rfl⟩
  · exact ⟨.headerWrite, .inl rfl, ho, by simp [Slot.writeAnswered], by simp [Slot.writeAnswered], rfl, rfl, rfl, rfl, rfl, rfl⟩
  · exact ⟨.dataWrite, .inr rfl, ho, by simp [Slot.writeAnswered], by simp [Slot.writeAnswered], rfl, rfl, rfl, rfl, rfl, rfl⟩

/-- The state once an ERROR for a record write is noted and reported (R38). -/
def withWriteFailure (k : SlotIdx) (sl noted : Slot) (s : State) : State :=
  reportFailure sl.window .ringWriteError (some sl.sequence) (some sl.line)
    (refuseTrigger k (s.setSlot k (some { noted with writeFailed := true })))

section
variable {k : SlotIdx} {sl noted : Slot} {req : MemRequest} {op : CaptureOp}

theorem RecordWrite.answered_ok (h : RecordWrite k sl noted req op) (s : State) :
    recordWriteAnswered k op .ok sl s =
      if noted.bothAnswered then
        (if noted.writeFailed then freeSlotAt k (s.setSlot k (some noted)) else recordComplete k noted (s.setSlot k (some noted)))
      else s.setSlot k (some noted) := by
  simp only [recordWriteAnswered, h.ok]

theorem RecordWrite.answered_error (h : RecordWrite k sl noted req op) (s : State) :
    recordWriteAnswered k op .error sl s =
      if noted.bothAnswered then freeSlotAt k (withWriteFailure k sl noted s) else withWriteFailure k sl noted s := by
  simp only [recordWriteAnswered, h.error, if_true]
  rfl

theorem withWriteFailure_of_dropped (h : RecordWrite k sl noted req op) (hd : sl.dropped = true) (s : State) :
    withWriteFailure k sl noted s = reportFailure sl.window .ringWriteError (some sl.sequence) (some sl.line)
      (s.setSlot k (some { noted with writeFailed := true })) := by
  obtain ⟨-, -, -, -, -, hdrop⟩ := h.kept
  rw [withWriteFailure, refuseTrigger_of_dropped (slot_setSlot_self s k _) (by rw [← hd, ← hdrop])]

theorem withWriteFailure_of_kept (h : RecordWrite k sl noted req op) (hd : sl.dropped = false) (s : State) :
    withWriteFailure k sl noted s = reportFailure sl.window .ringWriteError (some sl.sequence) (some sl.line)
      (answer sl.trigger.requester sl.trigger.tag .fault none
        (s.setSlot k (some { noted with writeFailed := true, dropped := true }))) := by
  obtain ⟨-, -, -, htrigger, -, hdrop⟩ := h.kept
  rw [withWriteFailure, refuseTrigger_of_kept (slot_setSlot_self s k _) (by rw [← hd, ← hdrop]), setSlot_setSlot]
  simp only [htrigger]
  rfl

end

theorem bothAnswered_iff (sl : Slot) : sl.bothAnswered = true ↔ sl.headerAnswered = true ∧ sl.dataAnswered = true := by
  simp [Slot.bothAnswered]

/-- A complete record whose trigger is still to be forwarded (R37). -/
theorem recordComplete_of_kept {k : SlotIdx} {sl : Slot} {s : State} (hd : sl.dropped = false) :
    recordComplete k sl (s.setSlot k (some sl)) =
      { (filterInsert sl.window sl.generation sl.line s).setSlot k (some { sl with phase := .forwarding }) with
        forwardQ := s.forwardQ ++ [{
          owner := .trigger k, line := sl.line, op := .write sl.trigger.data sl.trigger.enables }] } := by
  have hqueue := filterInsert_forwardQ sl.window sl.generation sl.line s
  rw [recordComplete, filterInsert_setSlot, if_neg (by simp [hd]), forwardTrigger, setSlot_setSlot]
  simp only [← hqueue]
  rfl

/-- Settles O44, by the operation that is answered and by what the slot has noted. -/
theorem theEndsOfACapture : Obligations.TheEndsOfACapture := by
  unfold Obligations.TheEndsOfACapture
  rintro tk k sl noted req n data s s0 hp he hs rfl
  have hs0 : (s.setEntry tk none).slot k = some sl := hs
  refine ⟨fun hnoted => ?_, fun ho => ?_, fun ho => ?_⟩
  · obtain ⟨op, h⟩ := recordWrite_of_noted hnoted
    obtain ⟨hwin, hgen, hline, htrigger, hfailed, hdrop⟩ := h.kept
    have hexec : ∀ status, exec (.memoryResponse tk status data) s =
        .next (recordWriteAnswered k op status sl (s.setEntry tk none)) := fun status => by
      have hholds : req.owner.holdsLine = false := by
        rw [h.owner]
        rcases h.write with rfl | rfl <;> rfl
      rw [exec_memoryResponse_waiting status data hp he, reportArrival_of_not_holds _ hholds, handToOwner, h.owner]
      exact congrArg _ (captureAnswered_recordWrite status data hs0 h.write)
    rw [hexec, hexec, h.answered_ok, h.answered_error]
    refine ⟨fun hboth => ?_, fun hone => ?_⟩
    · have hb := (bothAnswered_iff noted).mpr hboth
      rw [if_pos hb, if_pos hb]
      refine ⟨fun hf hd => ?_, fun hf hd => ?_, fun hf => ?_, fun hd => ?_, fun hd => ?_⟩
      · rw [if_neg (by simp [hfailed, hf]), recordComplete_of_kept (hdrop.trans hd), hwin, hgen, hline, htrigger]
        rfl
      · rw [if_neg (by simp [hfailed, hf]), recordComplete, if_pos (hdrop.trans hd), hwin, hgen, hline]
      · rw [if_pos (hfailed.trans hf)]
      · rw [withWriteFailure_of_dropped h hd]
      · rw [withWriteFailure_of_kept h hd]
    · have hb : ¬noted.bothAnswered = true := by
        rw [bothAnswered_iff]
        rintro ⟨hh, hd⟩
        rcases hone with hone | hone
        · simp [hh] at hone
        · simp [hd] at hone
      rw [if_neg hb, if_neg hb]
      exact ⟨rfl, fun hd => by rw [withWriteFailure_of_dropped h hd], fun hd => by rw [withWriteFailure_of_kept h hd]⟩
  · have hexec : ∀ status, exec (.memoryResponse tk status data) s =
        .next (voidWriteAnswered k status sl (s.setEntry tk none)) := fun status => by
      rw [exec_memoryResponse_waiting status data hp he, reportArrival_of_not_holds _ (by rw [ho]; rfl), handToOwner, ho]
      exact congrArg _ (captureAnswered_voidWrite status data hs0)
    rw [hexec, hexec]
    exact ⟨rfl, rfl⟩
  · have hexec : ∀ status, exec (.memoryResponse tk status data) s = .next (reportHoldEnd req.line (freeSlotAt k
        (answer sl.trigger.requester sl.trigger.tag (sysStatusOf status) none (s.setEntry tk none)))) := fun status => by
      rw [exec_memoryResponse_waiting status data hp he, reportArrival_of_holds _ (by rw [ho]; rfl), handToOwner, ho]
      simp only [triggerAnswered, hs0]
    rw [hexec, hexec]
    exact ⟨rfl, rfl⟩

/-! ### The timeout -/

theorem exec_responseTimeout_of_not_due {k : Ticket} {s : State} (h : ∀ e, s.entry k = some e → e.due = false) :
    exec (.responseTimeout k) s = .next s := by
  have hkept : takeTimeout k s = s := by
    unfold takeTimeout
    split
    · rfl
    · rename_i e he
      rw [if_neg (by simp [h e he])]
  have hexec : exec (.responseTimeout k) s = .next (unlessPor (takeTimeout k) s) := rfl
  rw [hexec, unlessPor, hkept, ite_self]

/-- The state once a due timeout is reported: the entry is LATE (R138). -/
def withTimeout (k : Ticket) (e : OutEntry) (s : State) : State :=
  emit (timeoutEvent s e.request) (s.setEntry k (some { e with state := .late, timeLeft := 0 }))

theorem exec_responseTimeout_of_due {k : Ticket} {e : OutEntry} {s : State} (hp : s.por = false) (he : s.entry k = some e)
    (hw : e.state = .waiting) (hz : e.timeLeft = 0) :
    exec (.responseTimeout k) s =
      .next (if e.orphaned then withTimeout k e s else handToOwner e.request .error 0 (withTimeout k e s)) := by
  have hexec : exec (.responseTimeout k) s = .next (unlessPor (takeTimeout k) s) := rfl
  have hlate : { e with state := .late } = { e with state := .late, timeLeft := 0 } := by rw [← hz]
  rw [hexec, unlessPor, if_neg (by simp [hp]), takeTimeout, he]
  simp only
  rw [if_pos (e.due_iff.mpr ⟨hw, hz⟩), hlate]
  rfl

theorem rewindAnswered_of_hand {w : WindowIdx} {c : RewindContext} {r : RecordInHand} {s : State} (op : RewindOp)
    (status : MemStatus) (data : LineData) (hs : (s.window w).state = .rewinding) (hc : (s.window w).rewind = some c)
    (hr : c.inHand = some r) :
    rewindAnswered w op status data s = grantRewindSource (walkAnswered w op status data c r s) := by
  simp only [rewindAnswered, hs, hc, hr, if_true]

/-- Settles O50: whatever the owner, it sees the status ERROR. -/
theorem aTimeoutHandsAnErrorToTheOwner : Obligations.ATimeoutHandsAnErrorToTheOwner := by
  unfold Obligations.ATimeoutHandsAnErrorToTheOwner
  refine ⟨fun k s h => exec_responseTimeout_of_not_due fun e he => ?_, fun k e s hp he hw hz => ?_⟩
  · rw [← Bool.not_eq_true, OutEntry.due_iff]
    rintro ⟨hw, hz⟩
    rcases h e he with h | h
    · exact h hw
    · omega
  · have hexec := exec_responseTimeout_of_due hp he hw hz
    have hkept : e.orphaned = false → exec (.responseTimeout k) s =
        .next (handToOwner e.request .error 0 (withTimeout k e s)) := fun ho =>
      hexec.trans (congrArg Host.Outcome.next (if_neg (by simp [ho])))
    refine ⟨hkept, fun ho => hexec.trans (congrArg Host.Outcome.next (if_pos ho)), fun q g ho hn hm => ?_,
      fun j sl ho hn hs => ?_, fun w c r ho hn hs hc hr => ?_⟩
    · have hevent : timeoutEvent s e.request =
          { kind := .memoryTimeout, requester := some q, line := some e.request.line, source := some .forward } := by
        simp only [timeoutEvent, ho, ownerWindow, ownerRequester, Owner.source]
      rw [hkept hn, withTimeout, hevent, handToOwner, ho]
      simp only
      rw [answer_of_mem _ _ _ _ _ (by exact hm), answerData_eq, if_neg (fun h => MemStatus.noConfusion h.1)]
      rfl
    · have hevent : timeoutEvent s e.request =
          { kind := .memoryTimeout, window := some sl.window, line := some e.request.line, source := some .capture } := by
        simp only [timeoutEvent, ho, ownerWindow, ownerRequester, Owner.source, hs, Option.map_some]
      rw [hkept hn, withTimeout, hevent, handToOwner, ho]
      exact congrArg Host.Outcome.next (captureAnswered_readError 0 (by exact hs))
    · have hevent : timeoutEvent s e.request =
          { kind := .memoryTimeout, window := some w, line := some e.request.line, source := some .rewind } := by
        simp only [timeoutEvent, ho, ownerWindow, ownerRequester, Owner.source]
      rw [hkept hn, withTimeout, hevent, handToOwner, ho]
      simp only
      rw [rewindAnswered_of_hand .headerRead .error 0 (by exact hs) (by exact hc) hr]
      rfl

end Sys2Proof.Machine
end

section
/-! The freeing of a slot in its window (R13, R14, R31, R41, R98, R99), and fault entry (R20, R42). -/

namespace Sys2Proof.Machine

open Sys2Proof

/-! ### The slot's generation -/

theorem generationSlotFreed_state (w : WindowIdx) (n : Nat) (s : State) :
    ((generationSlotFreed w n s).window w).state = (s.window w).state := by
  obtain ⟨_, v, -, -, hw, hs⟩ := writes_generationSlotFreed w n s 0
  rw [hw.window, hs]

/-- A slot is freed in a window that is not DISARMING. -/
theorem freeSlotAt_of_slot {k : SlotIdx} {sl : Slot} {s : State} (hk : s.slot k = some sl)
    (hs : (s.window sl.window).state ≠ .disarming) :
    freeSlotAt k s = raiseTrigger (generationSlotFreed sl.window sl.generation (s.setSlot k none)) := by
  have hstate := generationSlotFreed_state sl.window sl.generation (s.setSlot k none)
  have hnot : ¬(((generationSlotFreed sl.window sl.generation (s.setSlot k none)).window sl.window).state = .disarming ∧
      ((generationSlotFreed sl.window sl.generation (s.setSlot k none)).slotsOf sl.window).isEmpty = true) := by
    rintro ⟨hd, -⟩
    exact hs (hstate.symm.trans hd)
  simp only [freeSlotAt, hk, if_neg hnot]

/-- The last slot of a DISARMING window completes the disarm (R19, R41). -/
theorem freeSlotAt_of_disarming {k : SlotIdx} {sl : Slot} {s : State} (hk : s.slot k = some sl)
    (hs : (s.window sl.window).state = .disarming) (hlast : ∀ j sl', j ≠ k → s.slot j = some sl' → sl'.window ≠ sl.window) :
    freeSlotAt k s = raiseTrigger
      (disarmCompletion sl.window (generationSlotFreed sl.window sl.generation (s.setSlot k none))) := by
  have hstate := generationSlotFreed_state sl.window sl.generation (s.setSlot k none)
  have hstays := staysIn_generationSlotFreed sl.window sl.generation (s.setSlot k none)
  have hempty : ((generationSlotFreed sl.window sl.generation (s.setSlot k none)).slotsOf sl.window).isEmpty = true := by
    rw [List.isEmpty_iff, State.slotsOf, List.filter_eq_nil_iff]
    intro sl' hsl'
    obtain ⟨j, hj⟩ := (mem_busySlots_iff _ _).mp hsl'
    rw [hstays.slot] at hj
    have hjk : j ≠ k := by
      rintro rfl
      rw [slot_setSlot_self] at hj
      exact nomatch hj
    rw [slot_setSlot_ne _ _ hjk] at hj
    simpa using hlast j sl' hjk hj
  have hyes := And.intro (hstate.trans hs) hempty
  simp only [freeSlotAt, hk, if_pos hyes]

/-- Where a slot's generation stands in the list of its window. -/
structure ListedAt (v : Window) (before : List GenEntry) (m : GenEntry) (after : List GenEntry) : Prop where
  gens : v.gens = before ++ m :: after
  alone : ∀ e ∈ before ++ after, e.number ≠ m.number

theorem ListedAt.mapNumber {v : Window} {before after : List GenEntry} {m m' : GenEntry} (h : ListedAt v before m after)
    (f : GenEntry → GenEntry) (hn : m'.number = m.number) :
    mapNumber m.number f (before ++ m' :: after) = before ++ f m' :: after :=
  mapNumber_at _ f hn (fun e he => h.alone e (List.mem_append_left _ he)) (fun e he => h.alone e (List.mem_append_right _ he))

theorem ListedAt.find {v : Window} {before after : List GenEntry} {m m' : GenEntry} (h : ListedAt v before m after)
    (hn : m'.number = m.number) : (before ++ m' :: after).find? (fun e => e.number == m.number) = some m' := by
  have hbefore : before.find? (fun e => e.number == m.number) = none :=
    List.find?_eq_none.mpr fun e he => by simpa using h.alone e (List.mem_append_left _ he)
  rw [List.find?_append, hbefore]
  simp [hn]

/-- The generation's entry with one slot pending less. -/
def GenEntry.lessSlot (m : GenEntry) : GenEntry := { m with slotsPending := m.slotsPending - 1 }

/-- The state once the last slot of a CLOSING generation is freed, before what follows from it (R13). -/
def withGenerationClosed (w : WindowIdx) (before : List GenEntry) (m : GenEntry) (after : List GenEntry) (s : State) : State :=
  emit { kind := .genClosed, window := some w, generation := some m.number, cause := m.closeCause.map Cause.close }
    (s.setWindow w { s.window w with gens := before ++ { m.lessSlot with state := .closed } :: after })

/-- What follows from a generation's becoming CLOSED (R14, R98): the depth rule, then a pending quiet close. -/
def afterGenerationClosed (w : WindowIdx) (v : Window) (t : State) : State :=
  let s3 := if v.state = .armed ∨ v.state = .rewinding then depthRule w t else t
  if v.state = .armed ∧ v.quietClosePending = true then
    quietClose w (s3.modWindow w (fun u => { u with quietClosePending := false }))
  else s3

section
variable {w : WindowIdx} {before after : List GenEntry} {m : GenEntry} {s : State}

theorem modWindow_lessSlot (h : ListedAt (s.window w) before m after) :
    s.modWindow w (fun v => { v with
      gens := mapNumber m.number (fun e => { e with slotsPending := e.slotsPending - 1 }) v.gens }) =
      s.setWindow w { s.window w with gens := before ++ m.lessSlot :: after } := by
  unfold State.modWindow
  simp only
  rw [h.gens, h.mapNumber _ rfl]
  rfl

theorem generationSlotFreed_of_more (h : ListedAt (s.window w) before m after)
    (hm : ¬(m.state = .closing ∧ m.slotsPending ≤ 1)) :
    generationSlotFreed w m.number s = s.setWindow w { s.window w with gens := before ++ m.lessSlot :: after } := by
  have hnot : ¬(m.lessSlot.state = .closing ∧ m.lessSlot.slotsPending = 0) := by
    rintro ⟨hc, hz⟩
    have : m.slotsPending - 1 = 0 := hz
    exact hm ⟨hc, by omega⟩
  unfold generationSlotFreed
  simp only [modWindow_lessSlot h, window_setWindow_self, h.find (m' := m.lessSlot) rfl, if_neg hnot]

theorem generationSlotFreed_of_last (h : ListedAt (s.window w) before m after) (hc : m.state = .closing)
    (hp : m.slotsPending ≤ 1) :
    generationSlotFreed w m.number s =
      afterGenerationClosed w (s.window w) (withGenerationClosed w before m after s) := by
  have hyes : m.lessSlot.state = .closing ∧ m.lessSlot.slotsPending = 0 :=
    ⟨hc, show m.slotsPending - 1 = 0 by omega⟩
  unfold generationSlotFreed
  simp only [modWindow_lessSlot h, window_setWindow_self, h.find (m' := m.lessSlot) rfl, if_pos hyes]
  have hclosed := h.mapNumber (m' := m.lessSlot) (fun e => { e with state := .closed }) rfl
  unfold generationClosed
  simp only [window_setWindow_self, setWindow_setWindow]
  rw [show m.lessSlot.number = m.number from rfl, hclosed]
  rfl

theorem withGenerationClosed_window (w : WindowIdx) (before : List GenEntry) (m : GenEntry) (after : List GenEntry) (s : State) :
    (withGenerationClosed w before m after s).window w =
      { s.window w with gens := before ++ { m.lessSlot with state := .closed } :: after } := window_setWindow_self s w _

theorem depthRule_withGenerationClosed (h : before.length + 1 + after.length ≤ (s.window w).depth) :
    depthRule w (withGenerationClosed w before m after s) = withGenerationClosed w before m after s := by
  refine depthRule_within w _ ?_
  rw [withGenerationClosed_window]
  simp only [List.length_append, List.length_cons]
  omega

theorem afterGenerationClosed_of_still {v : Window} (t : State) (ha : v.state ≠ .armed) (hr : v.state ≠ .rewinding) :
    afterGenerationClosed w v t = t := by
  simp [afterGenerationClosed, ha, hr]

theorem afterGenerationClosed_of_rule {v : Window} (t : State)
    (h : v.state = .rewinding ∨ (v.state = .armed ∧ v.quietClosePending = false)) :
    afterGenerationClosed w v t = depthRule w t := by
  rcases h with h | ⟨h, hq⟩
  · simp [afterGenerationClosed, h]
  · simp [afterGenerationClosed, h, hq]

theorem afterGenerationClosed_of_quiet {v : Window} (t : State) (h : v.state = .armed) (hq : v.quietClosePending = true) :
    afterGenerationClosed w v t =
      quietClose w ((depthRule w t).modWindow w (fun u => { u with quietClosePending := false })) := by
  simp [afterGenerationClosed, h, hq]

end

theorem raiseTrigger_raiseTrigger (s : State) : raiseTrigger (raiseTrigger s) = raiseTrigger s := by
  simp only [raiseTrigger, Bool.or_assoc, Bool.or_self]

/-- The release of the generation just closed, the oldest of the list (R14, R60). -/
theorem releaseOldest_withGenerationClosed (w : WindowIdx) (m : GenEntry) (after : List GenEntry) (s : State) :
    raiseTrigger (releaseOldest w .depth (withGenerationClosed w [] m after s)) =
      raiseTrigger (emit (genReleasedEvent w m.number .depth)
        (emit { kind := .genClosed, window := some w, generation := some m.number, cause := m.closeCause.map Cause.close }
          (s.setWindow w { s.window w with
            gens := after
            ring := (s.window w).ring.released (s.window w).capacity (s.window w).highThreshold m.recordCount }))) := by
  have hwin := withGenerationClosed_window w [] m after s
  have hgens : ((withGenerationClosed w [] m after s).window w).gens =
      { m.lessSlot with state := .closed } :: after := by rw [hwin]; rfl
  have hset : ∀ v, (withGenerationClosed w [] m after s).setWindow w v =
      emit { kind := .genClosed, window := some w, generation := some m.number, cause := m.closeCause.map Cause.close }
        (s.setWindow w v) := fun v => congrArg (emit _) (setWindow_setWindow s w _ v)
  have hid : ∀ (p : Prop) [Decidable p] (t : State), raiseTrigger ((if p then id else raiseTrigger) t) = raiseTrigger t :=
    fun p _ t => by
      split
      · rfl
      · exact raiseTrigger_raiseTrigger t
  rw [releaseOldest_eq .depth hgens, hid, hset, hwin]
  rfl

/-- The state in which a pending quiet close is made: it is pending no more (R98). -/
def withoutPending (w : WindowIdx) (t : State) : State := t.setWindow w { t.window w with quietClosePending := false }

theorem withoutPending_window (w : WindowIdx) (t : State) :
    (withoutPending w t).window w = { t.window w with quietClosePending := false } := window_setWindow_self t w _

section
variable {w : WindowIdx} {t : State} {closed : List GenEntry} {o : GenEntry}

/-- A pending quiet close of a window with room in its list and no slot pending (R97, R98). -/
theorem quietClose_withoutPending (hg : (t.window w).gens = closed ++ [o]) (ho : o.state = .opened)
    (hc : ∀ e ∈ closed, e.state = .closed) (hp : o.slotsPending = 0) (hn : (t.window w).lastGen < 4294967295)
    (hd : closed.length + 2 ≤ (t.window w).depth) :
    quietClose w (withoutPending w t) = emit (genClosedEvent w o.number .quiet) (t.setWindow w { t.window w with
      gens := closed ++ [{ o with state := .closed, closeCause := some .quiet }, GenEntry.fresh ((t.window w).lastGen + 1)]
      lastGen := (t.window w).lastGen + 1
      quietClosePending := false
      timer := QuietTimer.stop false }) := by
  have hwin := withoutPending_window w t
  have hentry : o.closeWith .quiet = { o with state := .closed, closeCause := some .quiet } := by
    simp [GenEntry.closeWith, hp]
  rw [quietClose_of_room (by rw [hwin]; exact hn),
    closeGeneration_of_room .quiet (by rw [hwin]; exact hg) ho hc hp (by rw [hwin]; exact hd), hwin, withoutPending,
    setWindow_setWindow]
  simp only [Window.closedLast, hentry]
  rfl

/-- With no number left it is skipped (R99). -/
theorem quietClose_withoutPending_of_exhausted (hg : (t.window w).gens = closed ++ [o]) (ho : o.state = .opened)
    (hc : ∀ e ∈ closed, e.state = .closed) (hn : 4294967295 ≤ (t.window w).lastGen) :
    quietClose w (withoutPending w t) =
      emit { kind := .quietExpired, window := some w, generation := some o.number, exhausted := some true }
        (t.setWindow w { t.window w with quietClosePending := false, timer := QuietTimer.stop true }) := by
  have hwin := withoutPending_window w t
  have hopen : ((withoutPending w t).window w).openNumber = o.number := by
    have hlast : ((withoutPending w t).window w).openEntry = some o :=
      openEntry_last (by rw [hwin]; exact hg) ho (fun e he => by simp [hc e he])
    simp [Window.openNumber, hlast]
  rw [quietClose_of_exhausted (by rw [hwin]; exact (exhausted_iff _).mpr hn), hopen, hwin, withoutPending,
    setWindow_setWindow]

end

/-- A DISARMING window keeps its last number and its binding when a slot is freed. -/
theorem generationSlotFreed_of_disarming {w : WindowIdx} {s : State} (n : Nat) (h : (s.window w).state = .disarming) :
    ∃ gens, (generationSlotFreed w n s).window w = { s.window w with gens := gens } := by
  unfold generationSlotFreed
  simp only
  split
  · rename_i m _
    split
    · obtain ⟨v, hv, hcase⟩ := writes_generationClosed w m (s.modWindow w (fun v =>
        { v with gens := mapNumber n (fun e => { e with slotsPending := e.slotsPending - 1 }) v.gens }))
      have hwin : ∀ f, (s.modWindow w f).window w = f (s.window w) := fun f => window_setWindow_self s w _
      rw [hwin] at hcase
      rcases hcase with rfl | ⟨ha, -⟩
      · rw [hv.window]
        simp only [Window.closingDone, h]
        exact ⟨_, rfl⟩
      · rw [h] at ha
        exact nomatch ha
    · exact ⟨_, window_setWindow_self s w _⟩
  · exact ⟨_, window_setWindow_self s w _⟩

/-! What the freeing of a slot comes to, by its generation's entry. -/

section
variable {k : SlotIdx} {sl : Slot} {before after : List GenEntry} {m : GenEntry} {s : State}

/-- The generation has other slots pending, or is still OPEN. -/
theorem freeSlotAt_of_more (hk : s.slot k = some sl) (hgen : sl.generation = m.number)
    (hl : ListedAt (s.window sl.window) before m after) (hs : (s.window sl.window).state ≠ .disarming)
    (hm : ¬(m.state = .closing ∧ m.slotsPending ≤ 1)) :
    freeSlotAt k s = raiseTrigger ((s.setSlot k none).setWindow sl.window { s.window sl.window with
      gens := before ++ m.lessSlot :: after }) := by
  rw [freeSlotAt_of_slot hk hs, hgen, generationSlotFreed_of_more (s := s.setSlot k none) hl hm]
  rfl

/-- It is CLOSING, and the slot was its last. -/
theorem freeSlotAt_of_lastPending (hk : s.slot k = some sl) (hgen : sl.generation = m.number)
    (hl : ListedAt (s.window sl.window) before m after) (hs : (s.window sl.window).state ≠ .disarming)
    (hc : m.state = .closing) (hp : m.slotsPending ≤ 1) :
    freeSlotAt k s = raiseTrigger (afterGenerationClosed sl.window (s.window sl.window)
      (withGenerationClosed sl.window before m after (s.setSlot k none))) := by
  rw [freeSlotAt_of_slot hk hs, hgen, generationSlotFreed_of_last (s := s.setSlot k none) hl hc hp]
  rfl

end

section
variable {w : WindowIdx} {before after : List GenEntry} {m : GenEntry} {s : State} {v : Window}

/-- Nothing follows where the list is within its depth and no quiet close is pending. -/
theorem afterGenerationClosed_within
    (h : v.state = .rewinding ∨ (v.state = .armed ∧ v.quietClosePending = false))
    (hd : before.length + 1 + after.length ≤ (s.window w).depth) :
    afterGenerationClosed w v (withGenerationClosed w before m after s) = withGenerationClosed w before m after s := by
  rw [afterGenerationClosed_of_rule _ h, depthRule_withGenerationClosed hd]

/-- The generation itself is released where it is the oldest, one above the depth. -/
theorem afterGenerationClosed_above (h : v.state = .rewinding ∨ (v.state = .armed ∧ v.quietClosePending = false))
    (hd : after.length = (s.window w).depth) :
    afterGenerationClosed w v (withGenerationClosed w [] m after s) =
      releaseOldest w .depth (withGenerationClosed w [] m after s) := by
  rw [afterGenerationClosed_of_rule _ h]
  refine depthRule_one _ _ (m := { m.lessSlot with state := .closed }) (rest := after) ?_ rfl ?_
  · rw [withGenerationClosed_window]
    rfl
  · rw [withGenerationClosed_window]
    exact hd

/-- A pending quiet close follows where the list is within its depth. -/
theorem afterGenerationClosed_pending (h : v.state = .armed) (hq : v.quietClosePending = true)
    (hd : before.length + 1 + after.length ≤ (s.window w).depth) :
    afterGenerationClosed w v (withGenerationClosed w before m after s) =
      quietClose w (withoutPending w (withGenerationClosed w before m after s)) := by
  rw [afterGenerationClosed_of_quiet _ h hq, depthRule_withGenerationClosed hd]
  rfl

end

/-- Settles O45, by the entry of the slot's generation and the state of its window. -/
theorem aFreedSlotReportsToItsWindow : Obligations.AFreedSlotReportsToItsWindow := by
  unfold Obligations.AFreedSlotReportsToItsWindow
  rintro k sl w m before after s hk rfl hgen hg hal
  have hl : ListedAt (s.window sl.window) before m after := ⟨hg, hal⟩
  refine ⟨fun hm hs => freeSlotAt_of_more hk hgen hl hs hm, ?_, fun hs hlast => ?_⟩
  · rintro closedEvent t hc hp rfl ht
    have hless : m.lessSlot = { m with slotsPending := 0 } := by rw [GenEntry.lessSlot, hp]
    have hclosed : t = withGenerationClosed sl.window before m after (s.setSlot k none) := by
      rw [ht, withGenerationClosed, hless]
      rfl
    have hwin : t.window sl.window = { s.window sl.window with
        gens := before ++ { m with slotsPending := 0, state := .closed } :: after } := by
      rw [hclosed, withGenerationClosed_window, hless]
      rfl
    have hfree : (s.window sl.window).state ≠ .disarming → freeSlotAt k s =
        raiseTrigger (afterGenerationClosed sl.window (s.window sl.window) t) := fun hs => by
      rw [freeSlotAt_of_lastPending hk hgen hl hs hc hp.le, hclosed]
    refine ⟨fun hs => ?_, fun hs => ?_, fun hs hq hd => ?_⟩
    · rw [hfree (by simp [hs]), afterGenerationClosed_of_still _ (by simp [hs]) (by simp [hs])]
    · rw [hfree (by rcases hs with hs | ⟨hs, -⟩ <;> simp [hs]), hclosed]
      refine ⟨fun hd => by rw [afterGenerationClosed_within hs (by exact hd)], ?_⟩
      rintro rfl hd
      rw [afterGenerationClosed_above hs (by exact hd)]
      exact ⟨_, releaseOldest_withGenerationClosed sl.window m after (s.setSlot k none), RingState.released_of_none _ _ _,
        RingState.released_of_pos _ _ _⟩
    · rw [hfree (by simp [hs]), hclosed, afterGenerationClosed_pending hs hq (by exact hd), ← hclosed]
      have hlast : ∀ o, after = [o] → (t.window sl.window).gens =
          (before ++ [{ m with slotsPending := 0, state := .closed }]) ++ [o] := fun o ho => by
        rw [hwin, ho, List.append_assoc]
        rfl
      have hall : (∀ e ∈ before, e.state = .closed) →
          ∀ e ∈ before ++ [{ m with slotsPending := 0, state := .closed }], e.state = .closed := fun hb =>
        List.forall_mem_append.mpr ⟨hb, fun e he => by rw [List.mem_singleton.mp he]⟩
      refine ⟨fun hn => ?_, fun o ho hos hb hop hn hdep => ?_, fun o ho hos hb hn => ?_⟩
      · rw [quietClose_of_room (by rw [withoutPending_window, hwin]; exact hn)]
        rfl
      · rw [quietClose_withoutPending (hlast o ho) hos (hall hb) hop (by rw [hwin]; exact hn)
          (by rw [hwin, List.length_append]; exact hdep), hwin]
        simp only [List.append_assoc]
        rfl
      · rw [quietClose_withoutPending_of_exhausted (hlast o ho) hos (hall hb) (by rw [hwin]; exact hn)]
        rfl
  · obtain ⟨gens, hwin⟩ := generationSlotFreed_of_disarming (s := s.setSlot k none) sl.generation hs
    have hdis : (freeSlotAt k s).window sl.window = { s.window sl.window with gens := gens }.disarmed := by
      rw [freeSlotAt_of_disarming hk hs hlast, raiseTrigger_window, (writes_disarmCompletion _ _).window, hwin]
      rfl
    rw [hdis]
    exact ⟨rfl, rfl, rfl, rfl, rfl, rfl, rfl⟩

/-! ### Fault entry (R20, R42) -/

/-- A slot of a window that enters FAULTED: its trigger is dropped while its record is not complete (R42). -/
def Slot.faulted (w : WindowIdx) (sl : Slot) : Slot :=
  if sl.window = w ∧ (sl.phase = .reading ∨ sl.phase = .recording) then { sl with dropped := true } else sl

theorem Slot.beforeForwarding_iff (sl : Slot) :
    sl.beforeForwarding = true ↔ sl.phase = .reading ∨ sl.phase = .recording := by
  cases h : sl.phase <;> simp [Slot.beforeForwarding, h]

theorem Slot.faulted_faulted (w : WindowIdx) (sl : Slot) : (sl.faulted w).faulted w = sl.faulted w := by
  by_cases h : sl.window = w ∧ (sl.phase = .reading ∨ sl.phase = .recording)
  · have hf : sl.faulted w = { sl with dropped := true } := if_pos h
    rw [hf]
    exact if_pos h
  · have hf : sl.faulted w = sl := if_neg h
    rw [hf, hf]

/-- One turn of `refuseTriggers`: the trigger of slot `k` is refused if the fault concerns it. -/
def refuseAt (w : WindowIdx) (s : State) (k : SlotIdx) : State :=
  match s.slot k with
  | some sl => if sl.window = w ∧ sl.beforeForwarding = true then refuseTrigger k s else s
  | none => s

theorem refuseTriggers_eq (w : WindowIdx) (s : State) : refuseTriggers w s = (List.finRange 16).foldl (refuseAt w) s := rfl

/-- Nothing but the slots and the port's answers has changed. -/
def OnlyRefuses (s t : State) : Prop :=
  t = { s with slots := t.slots, admitted := t.admitted, responses := t.responses }

theorem OnlyRefuses.refl (s : State) : OnlyRefuses s s := rfl

theorem OnlyRefuses.trans {s t u : State} (h : OnlyRefuses s t) (k : OnlyRefuses t u) : OnlyRefuses s u := by
  unfold OnlyRefuses at *
  rw [k, h]

theorem onlyRefuses_refuseTrigger (k : SlotIdx) (s : State) : OnlyRefuses s (refuseTrigger k s) := by
  unfold refuseTrigger
  split
  · exact .refl s
  · split
    · exact .refl s
    · exact rfl

theorem onlyRefuses_refuseAt (w : WindowIdx) (s : State) (k : SlotIdx) : OnlyRefuses s (refuseAt w s k) := by
  unfold refuseAt
  split
  · split
    · exact onlyRefuses_refuseTrigger k s
    · exact .refl s
  · exact .refl s

theorem onlyRefuses_refuseTriggers (w : WindowIdx) (s : State) : OnlyRefuses s (refuseTriggers w s) :=
  foldl_keeps (P := OnlyRefuses s) (fun t k h => h.trans (onlyRefuses_refuseAt w t k)) _ (.refl s)

theorem refuseTrigger_slot_ne {k j : SlotIdx} (s : State) (h : j ≠ k) : (refuseTrigger k s).slot j = s.slot j := by
  unfold refuseTrigger
  split
  · rfl
  · split
    · rfl
    · exact slot_setSlot_ne _ _ h

theorem refuseAt_slot_ne (w : WindowIdx) {k j : SlotIdx} (s : State) (h : j ≠ k) : (refuseAt w s k).slot j = s.slot j := by
  unfold refuseAt
  split
  · split
    · exact refuseTrigger_slot_ne s h
    · rfl
  · rfl

theorem refuseAt_slot_self (w : WindowIdx) (s : State) (k : SlotIdx) :
    (refuseAt w s k).slot k = (s.slot k).map (Slot.faulted w) := by
  unfold refuseAt
  split
  · rename_i sl hk
    rw [hk, Option.map_some, Slot.faulted]
    by_cases h : sl.window = w ∧ (sl.phase = .reading ∨ sl.phase = .recording)
    · obtain ⟨hw, hp⟩ := h
      rw [if_pos ⟨hw, sl.beforeForwarding_iff.mpr hp⟩, if_pos ⟨hw, hp⟩]
      exact slot_refuseTrigger hk
    · rw [if_neg (by rwa [sl.beforeForwarding_iff]), if_neg h]
      exact hk
  · rename_i hk
    rw [hk]
    rfl

/-- The slots after a run of turns. -/
theorem foldl_refuseAt_slot (w : WindowIdx) (k : SlotIdx) (l : List SlotIdx) (s : State) :
    (l.foldl (refuseAt w) s).slot k = if k ∈ l then (s.slot k).map (Slot.faulted w) else s.slot k := by
  induction l generalizing s with
  | nil => rfl
  | cons j l ih =>
    rw [List.foldl_cons, ih]
    by_cases hjk : k = j
    · subst hjk
      rw [refuseAt_slot_self, if_pos List.mem_cons_self, Option.map_map]
      have hidem : Slot.faulted w ∘ Slot.faulted w = Slot.faulted w := funext (Slot.faulted_faulted w)
      rw [hidem, ite_self]
    · rw [refuseAt_slot_ne w s hjk]
      simp [hjk]

theorem refuseTriggers_slot (w : WindowIdx) (s : State) (k : SlotIdx) :
    (refuseTriggers w s).slot k = (s.slot k).map (Slot.faulted w) := by
  rw [refuseTriggers_eq, foldl_refuseAt_slot, if_pos (List.mem_finRange k)]

/-! The trigger's requester is answered: while the turns run, it is still admitted or already answered FAULT. -/

/-- The answer FAULT to a requester and tag. -/
def faultResponse (p : Requester × Tag) : SysResponse := { requester := p.1, tag := p.2, status := .fault, data := none }

/-- Admitted, or answered FAULT. -/
def OwedFault (p : Requester × Tag) (s : State) : Prop := p ∈ s.admitted ∨ faultResponse p ∈ s.responses

theorem mem_responses_answer {x : SysResponse} {s : State} (q : Requester) (g : Tag) (st : SysStatus) (d : Option LineData)
    (h : x ∈ s.responses) : x ∈ (answer q g st d s).responses := by
  unfold answer
  simp only
  split
  · exact List.mem_append_left _ h
  · exact h

theorem OwedFault.answered {q : Requester} {g : Tag} {s : State} (h : OwedFault (q, g) s) :
    faultResponse (q, g) ∈ (answer q g .fault none s).responses := by
  rcases h with h | h
  · rw [answer_of_mem _ _ _ _ _ h]
    exact List.mem_append_right _ (List.mem_singleton.mpr rfl)
  · exact mem_responses_answer q g .fault none h

theorem OwedFault.answer {p : Requester × Tag} {s : State} (h : OwedFault p s) (q : Requester) (g : Tag) :
    OwedFault p (Machine.answer q g .fault none s) := by
  by_cases hp : p = (q, g)
  · subst hp
    exact .inr h.answered
  · exact h.imp (List.mem_erase_of_ne hp).mpr (mem_responses_answer q g .fault none)

/-- What a turn is: nothing, or an answer FAULT. -/
theorem refuseAt_induction {P : State → Prop} {w : WindowIdx} {s : State} (k : SlotIdx) (hs : P s)
    (ha : ∀ q g o, P (answer q g .fault none (s.setSlot k o))) : P (refuseAt w s k) := by
  unfold refuseAt
  split
  · split
    · unfold refuseTrigger
      split
      · exact hs
      · split
        · exact hs
        · exact ha _ _ _
    · exact hs
  · exact hs

theorem OwedFault.refuseAt {p : Requester × Tag} {s : State} (h : OwedFault p s) (w : WindowIdx) (k : SlotIdx) :
    OwedFault p (Machine.refuseAt w s k) :=
  refuseAt_induction k h fun q g o => OwedFault.answer (s := s.setSlot k o) h q g

theorem mem_responses_refuseAt {x : SysResponse} {s : State} (h : x ∈ s.responses) (w : WindowIdx) (k : SlotIdx) :
    x ∈ (refuseAt w s k).responses :=
  refuseAt_induction (P := fun t => x ∈ t.responses) k h fun q g o =>
    mem_responses_answer (s := s.setSlot k o) q g .fault none h

/-- The turn of a slot whose trigger is not dropped yet answers it. -/
theorem refuseAt_answers {w : WindowIdx} {k : SlotIdx} {sl : Slot} {s : State} (hk : s.slot k = some sl)
    (hw : sl.window = w) (hp : sl.phase = .reading ∨ sl.phase = .recording) (hd : sl.dropped = false)
    (ho : OwedFault (sl.trigger.requester, sl.trigger.tag) s) :
    faultResponse (sl.trigger.requester, sl.trigger.tag) ∈ (refuseAt w s k).responses := by
  have hturn : refuseAt w s k = refuseTrigger k s := by
    unfold refuseAt
    simp only [hk, if_pos (And.intro hw (sl.beforeForwarding_iff.mpr hp))]
  rw [hturn, refuseTrigger_of_kept hk hd]
  exact OwedFault.answered (s := s.setSlot k (some sl.drop)) ho

theorem foldl_refuseAt_answers {w : WindowIdx} {k : SlotIdx} {sl : Slot} {l : List SlotIdx} {s : State} (hl : k ∈ l)
    (hk : s.slot k = some sl) (hw : sl.window = w) (hp : sl.phase = .reading ∨ sl.phase = .recording)
    (hd : sl.dropped = false) (ho : OwedFault (sl.trigger.requester, sl.trigger.tag) s) :
    faultResponse (sl.trigger.requester, sl.trigger.tag) ∈ (l.foldl (refuseAt w) s).responses := by
  induction l generalizing s with
  | nil => exact nomatch hl
  | cons j l ih =>
    by_cases hjk : k = j
    · subst hjk
      exact foldl_keeps (P := fun t => faultResponse (sl.trigger.requester, sl.trigger.tag) ∈ t.responses)
        (fun t j h => mem_responses_refuseAt h w j) l (refuseAt_answers hk hw hp hd ho)
    · exact ih ((List.mem_cons.mp hl).resolve_left hjk) ((refuseAt_slot_ne w s hjk).trans hk) (ho.refuseAt w j)

/-- Every trigger that a fault drops has been answered, if its request is admitted (R42). -/
theorem refuseTriggers_answers {w : WindowIdx} {k : SlotIdx} {sl : Slot} {s : State} (hk : s.slot k = some sl)
    (hw : sl.window = w) (hp : sl.phase = .reading ∨ sl.phase = .recording) (hd : sl.dropped = false)
    (hm : (sl.trigger.requester, sl.trigger.tag) ∈ s.admitted) :
    faultResponse (sl.trigger.requester, sl.trigger.tag) ∈ (refuseTriggers w s).responses := by
  rw [refuseTriggers_eq]
  exact foldl_refuseAt_answers (List.mem_finRange k) hk hw hp hd (.inl hm)

/-- WINDOW_FAULTED (R20, R125). -/
def windowFaultedEvent (w : WindowIdx) (cause : FaultCause) (q : Option Seq) (l : Option Line) : EventBody :=
  { kind := .windowFaulted, window := some w, cause := some (.fault cause), sequence := q, line := l }

/-- The record of a window that enters FAULTED. -/
def Window.faulted (cause : FaultCause) (q : Option Seq) (l : Option Line) (v : Window) : Window :=
  { v.quietStopped with state := .faulted, fault := some { cause := cause, sequence := q, line := l } }

theorem reportFailure_of_live {w : WindowIdx} {s : State} (cause : FaultCause) (q : Option Seq) (l : Option Line)
    (h : (s.window w).state = .armed ∨ (s.window w).state = .rewinding) :
    reportFailure w cause q l s = raiseTrigger (emit (windowFaultedEvent w cause q l)
      (refuseTriggers w (s.setWindow w ((s.window w).faulted cause q l)))) := if_pos h

theorem reportFailure_of_not_live {w : WindowIdx} {s : State} (cause : FaultCause) (q : Option Seq) (l : Option Line)
    (ha : (s.window w).state ≠ .armed) (hr : (s.window w).state ≠ .rewinding) : reportFailure w cause q l s = s :=
  if_neg (by simp [ha, hr])

theorem OnlyRefuses.window {s t : State} (h : OnlyRefuses s t) (u : WindowIdx) : t.window u = s.window u := by
  rw [h]
  rfl

theorem OnlyRefuses.rest {s t : State} (h : OnlyRefuses s t) :
    t.events = s.events ∧ t.serial = s.serial ∧ t.forwardQ = s.forwardQ ∧ t.captureQ = s.captureQ ∧ t.table = s.table ∧
      t.filter = s.filter ∧ t.park = s.park := by
  rw [h]
  exact ⟨rfl, rfl, rfl, rfl, rfl, rfl, rfl⟩

/-- Settles O46: the refusals of the triggers touch slots and answers alone. -/
theorem aFailureFaultsTheWindowOnce : Obligations.AFailureFaultsTheWindowOnce := by
  unfold Obligations.AFailureFaultsTheWindowOnce
  refine ⟨fun w cause q l s t hs ht => ?_, fun w cause q l s => reportFailure_of_not_live cause q l⟩
  rw [reportFailure_of_live cause q l hs] at ht
  have hrest := onlyRefuses_refuseTriggers w (s.setWindow w ((s.window w).faulted cause q l))
  have hslot := refuseTriggers_slot w (s.setWindow w ((s.window w).faulted cause q l))
  have hanswers := @refuseTriggers_answers w (s := s.setWindow w ((s.window w).faulted cause q l))
  generalize refuseTriggers w (s.setWindow w ((s.window w).faulted cause q l)) = x at ht hrest hslot hanswers
  have hwindow : ∀ u, t.window u = (s.setWindow w ((s.window w).faulted cause q l)).window u := fun u => by
    rw [ht]
    exact hrest.window u
  obtain ⟨hevents, hserial, hforward, hcapture, htable, hfilter, hpark⟩ := hrest.rest
  refine ⟨?_, fun u hu => ?_, fun k => ?_, fun k sl hk hw hp hd hm => ?_, ?_, fun hroom => ?_, ?_, ?_, ?_, ?_, ?_⟩
  · rw [hwindow, window_setWindow_self]
    rfl
  · rw [hwindow, window_setWindow_ne _ _ hu]
  · rw [ht]
    exact hslot k
  · rw [ht]
    exact hanswers k sl hk hw hp hd hm
  · rw [ht]
    exact congrArg (· + 1) hserial
  · rw [ht]
    show (emit _ _).events = _
    rw [emit_of_room _ _ (by rw [hevents]; exact hroom), hevents, hserial]
    rfl
  · rw [ht]
    exact hforward
  · rw [ht]
    exact hcapture
  · rw [ht]
    exact htable
  · rw [ht]
    exact hfilter
  · rw [ht]
    exact hpark

end Sys2Proof.Machine
end

section
/-! The walk of a rewind (R73, R75 to R77, R79, R80, R83, R86): what each answer of a walk's operation comes to. -/

namespace Sys2Proof.Machine

open Sys2Proof

/-! ### A window with another rewind context -/

/-- The window `w` has the rewind context `c`. -/
def withContext (w : WindowIdx) (c : RewindContext) (s : State) : State :=
  s.setWindow w { s.window w with rewind := some c }

theorem withContext_window (w : WindowIdx) (c : RewindContext) (s : State) :
    (withContext w c s).window w = { s.window w with rewind := some c } := window_setWindow_self s w _

theorem withContext_withContext (w : WindowIdx) (c d : RewindContext) (s : State) :
    withContext w d (withContext w c s) = withContext w d s := by
  rw [withContext, withContext_window, withContext, setWindow_setWindow]
  rfl

theorem modContext_of_some {w : WindowIdx} {s : State} {c : RewindContext} (h : (s.window w).rewind = some c)
    (g : RewindContext → RewindContext) : modContext w g s = withContext w (g c) s := by
  simp only [modContext, State.modWindow, h, Option.map_some, withContext]

theorem modContext_withContext (w : WindowIdx) (c : RewindContext) (s : State) (g : RewindContext → RewindContext) :
    modContext w g (withContext w c s) = withContext w (g c) s := by
  rw [modContext_of_some (c := c) (by rw [withContext_window]), withContext_withContext]

/-! ### The record in hand is finished (R73, R83, R84) -/

/-- The stop fields once a record is finished: a redone record does not lower records remaining (R84). -/
def StopFields.afterRecord (redo : Bool) (f : StopFields) : StopFields :=
  { f with remaining := if redo then f.remaining else f.remaining - 1 }

/-- The context that goes on to the record before (R73). -/
def RewindContext.nextRecord (c : RewindContext) (f : StopFields) (capacity : Nat) : RewindContext :=
  { c with
    stop := some (f.back capacity)
    inHand := some (RecordInHand.taken (f.back capacity).nextPosition (f.back capacity).nextSequence false) }

theorem RewindContext.finish_stop {c : RewindContext} {f : StopFields} (h : c.stop = some f) (r : RecordInHand) :
    (c.finish r).stop = some (f.afterRecord r.redo) := by
  simp only [RewindContext.finish, h, Option.map_some]
  rfl

section
variable {w : WindowIdx} {s : State} {c0 c : RewindContext} {f : StopFields}

theorem finishRecord_eq (h : (s.window w).rewind = some c0) (hf : c.stop = some f) (r : RecordInHand) :
    finishRecord w c r s =
      if (f.afterRecord r.redo).remaining = 0 then completeRewind w (withContext w (c.finish r) s)
      else if c.pauseRequested then pauseTakesEffect w (withContext w (c.finish r) s)
      else withContext w ((c.finish r).nextRecord (f.afterRecord r.redo) (s.window w).capacity) s := by
  have hstop := RewindContext.finish_stop hf r
  have hpause : (c.finish r).pauseRequested = c.pauseRequested := rfl
  have hcontext := modContext_of_some h (fun _ => c.finish r)
  simp only [finishRecord, hstop, hpause, hcontext, takeRecord, modContext_withContext, Option.map_some]
  rfl

theorem finishRecord_of_last (h : (s.window w).rewind = some c0) (hf : c.stop = some f) (r : RecordInHand)
    (hr : (f.afterRecord r.redo).remaining = 0) :
    finishRecord w c r s = completeRewind w (withContext w (c.finish r) s) := by
  rw [finishRecord_eq h hf, if_pos hr]

theorem finishRecord_of_pause (h : (s.window w).rewind = some c0) (hf : c.stop = some f) (r : RecordInHand)
    (hr : (f.afterRecord r.redo).remaining ≠ 0) (hp : c.pauseRequested = true) :
    finishRecord w c r s = pauseTakesEffect w (withContext w (c.finish r) s) := by
  rw [finishRecord_eq h hf, if_neg hr, if_pos hp]

theorem finishRecord_of_next (h : (s.window w).rewind = some c0) (hf : c.stop = some f) (r : RecordInHand)
    (hr : (f.afterRecord r.redo).remaining ≠ 0) (hp : c.pauseRequested = false) :
    finishRecord w c r s = withContext w ((c.finish r).nextRecord (f.afterRecord r.redo) (s.window w).capacity) s := by
  rw [finishRecord_eq h hf, if_neg hr, if_neg (by simp [hp])]

/-- A pause takes effect (R83). -/
theorem pauseTakesEffect_withContext (w : WindowIdx) (c : RewindContext) (s : State) :
    pauseTakesEffect w (withContext w c s) = raiseTrigger
      (emit { kind := .rewindPaused, window := some w, generation := some c.target, restored := some c.restored,
              skipped := some c.skipped, remaining := c.stop.map (·.remaining) }
        (s.setWindow w { s.window w with state := .paused, rewind := some { c with pauseRequested := false } })) := by
  simp only [pauseTakesEffect, withContext_window]
  rw [withContext, setWindow_setWindow]

theorem setInHand_of_some (h : (s.window w).rewind = some c) (r : RecordInHand) :
    setInHand w r s = withContext w { c with inHand := some r } s := modContext_of_some h _

end

/-! ### The answers -/

/-- The walk of a window: it is REWINDING, with the record `r` in hand. -/
structure Walks (s : State) (w : WindowIdx) (c : RewindContext) (f : StopFields) (r : RecordInHand) : Prop where
  rewinding : (s.window w).state = .rewinding
  context : (s.window w).rewind = some c
  stop : c.stop = some f
  hand : c.inHand = some r

/-- An operation of the walk is answered; the window's next operation, or another window's, is then offered (R74). -/
theorem exec_of_walk {tk : Ticket} {w : WindowIdx} {req : MemRequest} {n : Nat} {c : RewindContext} {f : StopFields}
    {r : RecordInHand} {s : State} {op : RewindOp} (status : MemStatus) (data : LineData) (hp : s.por = false)
    (he : s.entry tk = some { state := .waiting, request := req, orphaned := false, timeLeft := n })
    (ho : req.owner = .rewind w op) (h : Walks s w c f r) :
    exec (.memoryResponse tk status data) s = .next (reportArrival req
      (grantRewindSource (walkAnswered w op status data c r (s.setEntry tk none)))) := by
  rw [exec_memoryResponse_waiting status data hp he, handToOwner, ho]
  exact congrArg (fun t => Host.Outcome.next (reportArrival req t))
    (rewindAnswered_of_hand op status data h.rewinding h.context h.hand)

/-- A read of the walk holds no line; its restore write holds the line it names (R78). -/
theorem reportArrival_of_read {w : WindowIdx} {req : MemRequest} (s : State)
    (ho : req.owner = .rewind w .headerRead ∨ req.owner = .rewind w .dataRead) : reportArrival req s = s := by
  refine reportArrival_of_not_holds s ?_
  rcases ho with ho | ho
  · rw [ho]
    rfl
  · rw [ho]
    rfl

theorem reportArrival_of_restore {w : WindowIdx} {req : MemRequest} (s : State) (ho : req.owner = .rewind w .restoreWrite) :
    reportArrival req s = reportHoldEnd req.line s := reportArrival_of_holds s (by rw [ho]; rfl)

section
variable {w : WindowIdx} {c : RewindContext} {f : StopFields} {r : RecordInHand} {s : State} {data : LineData}

theorem headerReadOk_of_capture (h : Walks s w c f r) (ha : acceptHeader w r.sequence data = some .capture) :
    headerReadOk w c r data s = withContext w { c with inHand := some { r with
      kind := some .capture, stage := .data, ready := true, headerLine := data } } s := by
  simp only [headerReadOk, ha, setInHand_of_some h.context]

theorem headerReadOk_of_void (ha : acceptHeader w r.sequence data = some .void) (hv : voidCheckValid data = true) :
    headerReadOk w c r data s = finishRecord w { c with skipped := if r.redo then c.skipped else c.skipped + 1 }
      { r with kind := some .void, headerLine := data } s := by
  simp only [headerReadOk, ha, hv, if_true]

theorem headerReadOk_of_bad
    (ha : acceptHeader w r.sequence data = none ∨
      (acceptHeader w r.sequence data = some .void ∧ voidCheckValid data = false)) :
    headerReadOk w c r data s = reportFailure w .recordBad (some r.sequence) none s := by
  rcases ha with ha | ⟨ha, hv⟩
  · simp only [headerReadOk, ha]
  · simp [headerReadOk, ha, hv]

theorem dataReadOk_of_good (h : Walks s w c f r) (ha : addressValid (s.window w) r.headerLine = true)
    (hc : captureCheckValid r.headerLine data = true) :
    dataReadOk w r data s =
      withContext w { c with inHand := some { r with stage := .restore, ready := true, dataLine := data } } s := by
  simp only [dataReadOk, ha, hc, Bool.and_self, if_true, setInHand_of_some h.context]

theorem dataReadOk_of_bad
    (h : addressValid (s.window w) r.headerLine = false ∨ captureCheckValid r.headerLine data = false) :
    dataReadOk w r data s = reportFailure w .recordBad (some r.sequence) none s := by
  rcases h with h | h <;> simp [dataReadOk, h]

end

/-- Settles O47, by the operation that is answered. -/
theorem theWalkRestoresRecordByRecord : Obligations.TheWalkRestoresRecordByRecord := by
  unfold Obligations.TheWalkRestoresRecordByRecord
  rintro tk w req n data c f r s s0 hp he rfl hs hc hf hr
  have hwalk : Walks s w c f r := ⟨hs, hc, hf, hr⟩
  have hwalk0 : Walks (s.setEntry tk none) w c f r := ⟨hs, hc, hf, hr⟩
  refine ⟨fun ho ha => ?_, fun ho ha hv => ?_, fun ho hpause hredo hrem => ?_, fun ho ha => ?_, fun ho => ?_⟩
  · rw [exec_of_walk .ok data hp he ho hwalk, reportArrival_of_read _ (.inl ho), walkAnswered]
    simp only
    rw [headerReadOk_of_capture hwalk0 ha]
    rfl
  · rw [exec_of_walk .ok data hp he ho hwalk, reportArrival_of_read _ (.inr ho), walkAnswered]
    simp only
    rw [dataReadOk_of_good hwalk0 ha hv]
    rfl
  · rw [exec_of_walk .ok data hp he ho hwalk, reportArrival_of_restore _ ho, walkAnswered]
    simp only
    rw [restoreOk, finishRecord_of_next (f := f) hwalk0.context (by exact hf) r
      (by simp [StopFields.afterRecord, hredo]; omega) (by exact hpause)]
    simp only [RewindContext.nextRecord, RewindContext.finish, StopFields.afterRecord, hredo]
    rfl
  · rw [exec_of_walk .ok data hp he ho hwalk, reportArrival_of_read _ (.inl ho), walkAnswered]
    rw [headerReadOk_of_bad (.inl ha)]
  · rw [exec_of_walk .error data hp he ho hwalk, reportArrival_of_restore _ ho]
    rfl

/-- Settles O48, by the operation and what its answer shows. -/
theorem theWalkSkipsPausesAndFails : Obligations.TheWalkSkipsPausesAndFails := by
  unfold Obligations.TheWalkSkipsPausesAndFails
  rintro tk w req n data c f r s s0 hp he rfl hs hc hf hr
  have hwalk : Walks s w c f r := ⟨hs, hc, hf, hr⟩
  have hwalk0 : Walks (s.setEntry tk none) w c f r := ⟨hs, hc, hf, hr⟩
  refine ⟨fun ho ha hv hpause hredo hrem => ?_, fun ho ha hv => ?_, fun ho hbad => ?_, fun ho => ?_,
    fun ho hpause hredo hrem => ?_, fun ho hpause hredo hrem => ?_⟩
  · rw [exec_of_walk .ok data hp he ho hwalk, reportArrival_of_read _ (.inl ho), walkAnswered]
    simp only
    rw [headerReadOk_of_void ha hv, finishRecord_of_next (f := f) hwalk0.context (by exact hf) _
      (by simp [StopFields.afterRecord, hredo]; omega) (by exact hpause)]
    simp only [RewindContext.nextRecord, RewindContext.finish, StopFields.afterRecord, hredo]
    rfl
  · rw [exec_of_walk .ok data hp he ho hwalk, reportArrival_of_read _ (.inl ho), walkAnswered]
    rw [headerReadOk_of_bad (.inr ⟨ha, hv⟩)]
  · rw [exec_of_walk .ok data hp he ho hwalk, reportArrival_of_read _ (.inr ho), walkAnswered]
    rw [dataReadOk_of_bad (by exact hbad)]
  · rcases ho with ho | ho
    · rw [exec_of_walk .error data hp he ho hwalk, reportArrival_of_read _ (.inl ho)]
      rfl
    · rw [exec_of_walk .error data hp he ho hwalk, reportArrival_of_read _ (.inr ho)]
      rfl
  · rw [exec_of_walk .ok data hp he ho hwalk, reportArrival_of_restore _ ho, walkAnswered]
    simp only
    rw [restoreOk, finishRecord_of_pause (f := f) hwalk0.context (by exact hf) r
      (by simp [StopFields.afterRecord, hredo]; omega) (by exact hpause),
      pauseTakesEffect_withContext, RewindContext.finish_stop (f := f) (by exact hf)]
    simp only [RewindContext.finish, StopFields.afterRecord, hredo, hf]
    rfl
  · rw [exec_of_walk .ok data hp he ho hwalk, reportArrival_of_restore _ ho, walkAnswered]
    simp only
    rw [restoreOk, finishRecord_of_next (f := f) hwalk0.context (by exact hf) r
      (by simp [StopFields.afterRecord, hredo]; omega) (by exact hpause)]
    simp only [RewindContext.nextRecord, RewindContext.finish, StopFields.afterRecord, hredo]
    rfl

end Sys2Proof.Machine
end

section
/-! The turn of the REWIND source (R74, R132), the completion of a rewind (R61, R79, R80), and the end of the drain (R69 to R71). -/

namespace Sys2Proof.Machine

open Sys2Proof

/-! ### The turn of the REWIND source -/

theorem offerRewind_of_hand {w : WindowIdx} {c : RewindContext} {r : RecordInHand} {s : State}
    (hc : (s.window w).rewind = some c) (hr : c.inHand = some r) :
    offerRewind w s = { withContext w { c with inHand := some { r with ready := false } } s with
      rewindOffer := some (rewindRequest w (s.window w) r), rewindLast := w } := by
  simp only [offerRewind, hc, Option.bind_some, hr, modContext_of_some hc]

/-- The next window in the turn with an operation ready: the one at the least distance from the window granted last. -/
theorem turn_of_ready {s : State} {w : WindowIdx} (hw : (s.window w).rewindReady = true)
    (hu : ∀ u : WindowIdx, (u.val + 15 - s.rewindLast.val) % 16 < (w.val + 15 - s.rewindLast.val) % 16 →
      (s.window u).rewindReady = false) :
    (turnOrder s.rewindLast).find? (fun w => (s.window w).rewindReady) = some w := by
  have hlast := s.rewindLast.isLt
  have hwlt := w.isLt
  have hplace : (s.rewindLast.val + 1 + (w.val + 15 - s.rewindLast.val) % 16) % 16 = w.val := by omega
  have hfind : (List.finRange 16).find? ((fun w => (s.window w).rewindReady) ∘
      fun i : Fin 16 => (⟨(s.rewindLast.val + 1 + i.val) % 16, Nat.mod_lt _ (by decide)⟩ : WindowIdx)) =
      some ⟨(w.val + 15 - s.rewindLast.val) % 16, Nat.mod_lt _ (by decide)⟩ := by
    refine find_finRange_lowest _ _ ?_ fun j hj => hu _ ?_
    · simp only [Function.comp_apply, hplace]
      exact hw
    · have hj' : j.val < (w.val + 15 - s.rewindLast.val) % 16 := hj
      have hjlt := j.isLt
      simp only
      omega
  rw [turnOrder, List.find?_map, hfind, Option.map_some]
  exact congrArg some (Fin.ext hplace)

theorem grantRewindSource_of_next {s : State} {w : WindowIdx} (hf : rewindInFlight s = false)
    (hn : (turnOrder s.rewindLast).find? (fun w => (s.window w).rewindReady) = some w) :
    grantRewindSource s = offerRewind w s := by
  simp [grantRewindSource, hf, hn]

theorem grantRewindSource_of_none {s : State} (h : rewindInFlight s = true ∨ ∀ w, (s.window w).rewindReady = false) :
    grantRewindSource s = s := by
  unfold grantRewindSource
  split
  · rfl
  · rename_i hf
    have hnone : (turnOrder s.rewindLast).find? (fun w => (s.window w).rewindReady) = none := by
      rw [List.find?_eq_none]
      intro w _
      simp [h.resolve_left hf w]
    rw [hnone]

theorem rewindRequest_of_header (w : WindowIdx) (v : Window) {r : RecordInHand} (h : r.stage = .header) :
    rewindRequest w v r = { owner := .rewind w .headerRead, line := v.headerLine r.position, op := .read } := by
  simp only [rewindRequest, h]

theorem rewindRequest_of_data (w : WindowIdx) (v : Window) {r : RecordInHand} (h : r.stage = .data) :
    rewindRequest w v r = { owner := .rewind w .dataRead, line := v.dataLine r.position, op := .read } := by
  simp only [rewindRequest, h]

theorem rewindRequest_of_restore (w : WindowIdx) (v : Window) {r : RecordInHand} (h : r.stage = .restore) :
    rewindRequest w v r =
      { owner := .rewind w .restoreWrite, line := recordedLine r.headerLine, op := .write r.dataLine allEnables } := by
  simp only [rewindRequest, h]

/-- Settles O52, by the distance in the turn and by the stage of the record in hand. -/
theorem theRewindSourceTurnsRoundRobin : Obligations.TheRewindSourceTurnsRoundRobin := by
  unfold Obligations.TheRewindSourceTurnsRoundRobin
  refine ⟨fun w c r s hf hw hc hr hu => ?_, fun s => grantRewindSource_of_none, fun w v b r hb ha hl =>
    ⟨fun hs => ?_, fun hs => ?_, fun hs => ?_⟩⟩
  · rw [grantRewindSource_of_next hf (turn_of_ready hw hu), offerRewind_of_hand hc hr]
    rfl
  · rw [rewindRequest_of_header w v hs]
    exact ⟨rfl, rfl, (headerLine_addr hb ha hl).1⟩
  · rw [rewindRequest_of_data w v hs]
    exact ⟨rfl, rfl, (headerLine_addr hb ha hl).2⟩
  · rw [rewindRequest_of_restore w v hs]
    exact ⟨rfl, rfl, fun hv => recordedLine_addr ((addressValid_iff v r.headerLine).mp hv).1⟩

/-! ### The completion of a rewind -/

/-- What a turn of the REWIND source leaves alone: the records but for their rewind contexts, a window that is not REWINDING
altogether, and the events. -/
structure TurnKeeps (s t : State) : Prop where
  others : ∀ u, (t.window u).gens = (s.window u).gens ∧ (t.window u).ring = (s.window u).ring
  still : ∀ u, (s.window u).state ≠ .rewinding → t.window u = s.window u
  events : t.events = s.events

theorem TurnKeeps.refl (s : State) : TurnKeeps s s := ⟨fun _ => ⟨rfl, rfl⟩, fun _ _ => rfl, rfl⟩

theorem turnKeeps_modContext {w : WindowIdx} {s : State} (h : (s.window w).state = .rewinding)
    (f : RewindContext → RewindContext) : TurnKeeps s (modContext w f s) := by
  refine ⟨fun u => ?_, fun u hu => ?_, rfl⟩
  · by_cases huw : u = w
    · subst huw
      rw [window_modContext]
      exact ⟨rfl, rfl⟩
    · rw [modContext, State.modWindow, window_setWindow_ne _ _ huw]
      exact ⟨rfl, rfl⟩
  · have huw : u ≠ w := fun huw => hu (huw ▸ h)
    exact window_setWindow_ne s _ huw

theorem turnKeeps_offerRewind {w : WindowIdx} {s : State} (h : (s.window w).rewindReady = true) :
    TurnKeeps s (offerRewind w s) := by
  have hs : (s.window w).state = .rewinding := by
    simp only [Window.rewindReady, Bool.and_eq_true, beq_iff_eq] at h
    exact h.1
  unfold offerRewind
  simp only
  split
  · exact .refl s
  · rename_i r _
    have hk := turnKeeps_modContext hs (fun c => { c with inHand := some { r with ready := false } })
    exact ⟨hk.others, hk.still, hk.events⟩

theorem turnKeeps_grantRewindSource (s : State) : TurnKeeps s (grantRewindSource s) := by
  unfold grantRewindSource
  split
  · exact .refl s
  · split
    · exact .refl s
    · rename_i w hw
      have hready := List.find?_some hw
      exact turnKeeps_offerRewind hready

theorem reportHoldEnd_window (l : Line) (s : State) (u : WindowIdx) : (reportHoldEnd l s).window u = s.window u := by
  unfold reportHoldEnd
  split <;> rfl

theorem reportHoldEnd_events (l : Line) (s : State) : (reportHoldEnd l s).events = s.events := by
  unfold reportHoldEnd
  split <;> rfl

/-- The record of a window whose rewind is complete, `taken` records cut off and the entries `older` kept (R61, R79). -/
def Window.completed (f : StopFields) (older : List GenEntry) (taken : Nat) (v : Window) : Window :=
  { v with
    state := .armed
    rewind := none
    ring := v.ring.truncated v.capacity v.highThreshold f.stopPosition taken f.stopSequence
    gens := older ++ [GenEntry.fresh (v.lastGen + 1)]
    lastGen := v.lastGen + 1 }

/-- REWIND_DONE (R80, R125). -/
def rewindDoneEvent (w : WindowIdx) (v : Window) (c : RewindContext) : EventBody :=
  { kind := .rewindDone, window := some w, generation := some (v.lastGen + 1), target := some c.target,
    targetMoved := some c.targetMoved, restored := some c.restored, skipped := some c.skipped }

/-- The completion of a rewind whose list is within its depth (R61, R79, R80). -/
theorem completeRewind_of_room {w : WindowIdx} {c : RewindContext} {f : StopFields} {older newer : List GenEntry} {m : GenEntry}
    {s : State} (hf : c.stop = some f) (hg : (s.window w).gens = older ++ m :: newer) (hm : m.number = c.target)
    (ho : ∀ e ∈ older, e.number ≠ c.target) (hd : older.length + 1 ≤ (s.window w).depth) :
    completeRewind w (withContext w c s) = raiseTrigger (emit (rewindDoneEvent w (s.window w) c)
      (s.setWindow w ((s.window w).completed f older (recordSum (m :: newer))))) := by
  have hwin := withContext_window w c s
  have holder : olderThan c.target (s.window w).gens = older := by rw [hg, olderThan_at hm ho]
  have hfrom : fromTarget c.target (s.window w).gens = m :: newer := by rw [hg, fromTarget_at hm ho]
  have hset : ∀ v, (withContext w c s).setWindow w v = s.setWindow w v := fun v => setWindow_setWindow s w _ v
  have hcut : (s.setWindow w ({ s.window w with rewind := some c }.cutBack c f)).window w =
      { s.window w with rewind := some c }.cutBack c f := window_setWindow_self s w _
  have hrule : depthRule w (s.setWindow w ({ s.window w with rewind := some c }.cutBack c f)) =
      s.setWindow w ({ s.window w with rewind := some c }.cutBack c f) := by
    refine depthRule_within w _ ?_
    rw [hcut]
    simpa [Window.cutBack, holder] using hd
  rw [completeRewind_eq (c := c) (by rw [hwin]) hf, hwin, hset, hrule, State.modWindow, hcut, setWindow_setWindow]
  simp only [Window.cutBack, holder, hfrom]
  rfl

/-- The restore write of a walk's last record completes the rewind. -/
theorem walkAnswered_of_last {w : WindowIdx} {c : RewindContext} {f : StopFields} {r : RecordInHand} {s : State}
    (data : LineData) (h : Walks s w c f r) (hredo : r.redo = false) (hrem : f.remaining = 1) :
    walkAnswered w .restoreWrite .ok data c r s =
      completeRewind w (withContext w ({ c with restored := c.restored + 1 }.finish r) s) := by
  have hlast : (f.afterRecord r.redo).remaining = 0 := by simp [StopFields.afterRecord, hredo, hrem]
  rw [walkAnswered, restoreOk, finishRecord_of_last (f := f) h.context (by exact h.stop) r hlast]
  simp [hredo]

/-- Settles O49: the turn of the REWIND source that follows leaves the completed window alone. -/
theorem theLastRestoreCompletesTheRewind : Obligations.TheLastRestoreCompletesTheRewind := by
  unfold Obligations.TheLastRestoreCompletesTheRewind
  intro tk w req n data c f r older m newer s hp he ho hs hc hf hr hredo hrem hg hm hold hd hsum
  have hexec := exec_of_walk .ok data hp he ho ⟨hs, hc, hf, hr⟩
  rw [walkAnswered_of_last (s := s.setEntry tk none) data ⟨hs, hc, hf, hr⟩ hredo hrem,
    completeRewind_of_room (newer := newer) (RewindContext.finish_stop (f := f) (by exact hf) r) (by exact hg) (by exact hm)
      (by exact hold) (by exact hd), reportArrival_of_restore _ ho] at hexec
  refine ⟨_, hexec, ?_⟩
  have hkeeps := turnKeeps_grantRewindSource (raiseTrigger (emit
    (rewindDoneEvent w ((s.setEntry tk none).window w) ({ c with restored := c.restored + 1 }.finish r))
    ((s.setEntry tk none).setWindow w
      (((s.setEntry tk none).window w).completed (f.afterRecord r.redo) older (recordSum (m :: newer))))))
  have hself : ((s.setEntry tk none).setWindow w
      (((s.setEntry tk none).window w).completed (f.afterRecord r.redo) older (recordSum (m :: newer)))).window w =
      (s.window w).completed (f.afterRecord r.redo) older (recordSum (m :: newer)) := window_setWindow_self _ w _
  have hwin := (reportHoldEnd_window req.line _ w).trans ((hkeeps.still w (by
    rw [raiseTrigger_window, emit_window, hself]
    exact WindowState.noConfusion)).trans hself)
  have hring : ((s.window w).completed (f.afterRecord r.redo) older (recordSum (m :: newer))).ring =
      { (s.window w).ring.lower (s.window w).capacity (s.window w).highThreshold (recordSum (m :: newer)) with
        head := f.stopPosition, nextSeq := f.stopSequence } := if_neg (by omega)
  rw [hwin, hring]
  refine ⟨rfl, rfl, rfl, rfl, rfl, rfl, rfl, rfl, fun u hu => ?_, fun hroom => ?_⟩
  · rw [reportHoldEnd_window]
    obtain ⟨hgens, hrings⟩ := hkeeps.others u
    rw [hgens, hrings, raiseTrigger_window, emit_window, window_setWindow_ne _ _ hu]
    exact ⟨rfl, rfl⟩
  · rw [reportHoldEnd_events, hkeeps.events, raiseTrigger_events, emit_of_room _ _ (by exact hroom)]
    rfl

/-! ### The end of the drain -/

theorem waits_iff (w : WindowIdx) (o : Owner) : o.drains w = true ↔
    (∃ q g, o = .request q g) ∨ (∃ k, o = .trigger k) ∨ (∃ k, o = .capture k .captureRead) ∨ o = .rewind w .restoreWrite := by
  cases o with
  | request q g => simp [Owner.drains]
  | trigger k => simp [Owner.drains]
  | capture k op => cases op <;> simp [Owner.drains]
  | rewind u op => cases op <;> simp [Owner.drains]

theorem not_inDrain_iff (w : WindowIdx) (v : Window) (r : MemRequest) :
    r.inDrain w v = false ↔ (r.owner.drains w = true → v.covers r.line = false) := by
  simp [MemRequest.inDrain]

theorem drainEmpty_iff (s : State) (w : WindowIdx) : drainEmpty s w = true ↔
    (∀ r ∈ s.forwardQ, r.owner.drains w = true → (s.window w).covers r.line = false) ∧
    (∀ k sl, s.slot k = some sl → sl.window ≠ w) ∧
    (∀ k e, s.entry k = some e → e.request.owner.drains w = true → (s.window w).covers e.request.line = false) := by
  have hqueue : s.forwardQ.any (·.inDrain w (s.window w)) = false ↔
      ∀ r ∈ s.forwardQ, r.owner.drains w = true → (s.window w).covers r.line = false := by
    simp only [List.any_eq_false, Bool.not_eq_true, not_inDrain_iff]
  have hslots : (s.slotsOf w).isEmpty = true ↔ ∀ k sl, s.slot k = some sl → sl.window ≠ w := by
    simp only [State.slotsOf, List.isEmpty_iff, List.filter_eq_nil_iff, mem_busySlots_iff, beq_iff_eq, forall_exists_index]
    exact forall_comm
  have htable : s.occupied.any (fun e => e.request.inDrain w (s.window w)) = false ↔
      ∀ k e, s.entry k = some e → e.request.owner.drains w = true → (s.window w).covers e.request.line = false := by
    simp only [List.any_eq_false, Bool.not_eq_true, not_inDrain_iff, mem_occupied_iff, forall_exists_index]
    exact forall_comm
  rw [drainEmpty, Bool.and_eq_true, Bool.and_eq_true, Bool.not_eq_true', Bool.not_eq_true', hqueue, hslots, htable, and_assoc]

theorem exec_drainEnd_of_end {w : WindowIdx} {s : State} (hp : s.por = false) (h : drainMayEnd s w = true) :
    exec (.drainEnd w) s = .next (endDrain w s) := by
  have hexec : exec (.drainEnd w) s = .next (unlessPor (fun s => if drainMayEnd s w then endDrain w s else s) s) := rfl
  rw [hexec, unlessPor, if_neg (by simp [hp]), if_pos h]

theorem exec_drainEnd_of_not_end {w : WindowIdx} {s : State} (h : drainMayEnd s w = false) :
    exec (.drainEnd w) s = .next s := by
  have hexec : exec (.drainEnd w) s = .next (unlessPor (fun s => if drainMayEnd s w then endDrain w s else s) s) := rfl
  rw [hexec, unlessPor]
  simp [h]

/-- The target check leaves a target that the list holds, and moves any other to the oldest entry (R71). -/
theorem checkTarget_eq {c0 c : RewindContext} {older newer : List GenEntry} {m : GenEntry} (hm : m.number = c.target)
    (h : c = c0 ∨ (older = [] ∧ (∀ e ∈ m :: newer, e.number ≠ c0.target) ∧
      c = { c0 with target := m.number, targetMoved := true })) :
    c0.checkTarget (older ++ m :: newer) = c := by
  rcases h with rfl | ⟨rfl, hn, rfl⟩
  · exact if_pos (List.any_eq_true.mpr ⟨m, by simp, by simp [hm]⟩)
  · have hnone : ¬([] ++ m :: newer).any (fun e => e.number == c0.target) = true := by
      rw [List.any_eq_true]
      rintro ⟨e, he, heq⟩
      exact hn e he (by simpa using heq)
    exact if_neg hnone

/-- The stop fields, from where the target stands in the list (R54, R71). -/
theorem stopFieldsFor_at {v : Window} {g : Nat} {older newer : List GenEntry} {m : GenEntry}
    (hg : v.gens = older ++ m :: newer) (hm : m.number = g) (ho : ∀ e ∈ older, e.number ≠ g) :
    stopFieldsFor v g =
      { stopPosition := (v.ring.tail + recordSum older) % v.capacity
        stopSequence := v.ring.tailSeq + BitVec.ofNat 32 (recordSum older)
        remaining := recordSum (m :: newer)
        nextPosition := if 0 < recordSum (m :: newer) then prevPosition v.capacity v.ring.head
          else (v.ring.tail + recordSum older) % v.capacity
        nextSequence := if 0 < recordSum (m :: newer) then v.ring.nextSeq - 1
          else v.ring.tailSeq + BitVec.ofNat 32 (recordSum older) } := by
  simp only [stopFieldsFor, hg, olderThan_at hm ho, fromTarget_at hm ho]

/-- The end of a drain, once target and stop fields are fixed (R71). -/
theorem endDrain_eq {w : WindowIdx} {s : State} {c0 c : RewindContext} {f : StopFields} (h : (s.window w).rewind = some c0)
    (hc : c0.checkTarget (s.window w).gens = c) (hf : stopFieldsFor (s.window w) c.target = f) :
    endDrain w s =
      if c.pauseRequested then pauseTakesEffect w (withContext w { c with stop := some f } s)
      else if f.remaining = 0 then completeRewind w (withContext w { c with stop := some f } s)
      else grantRewindSource (withContext w { c with
        stop := some f, phase := .walk
        inHand := some (RecordInHand.taken f.nextPosition f.nextSequence false) } s) := by
  simp only [endDrain, h, hc, hf, modContext_of_some h, takeRecord, modContext_withContext, Option.map_some]

/-- Settles O51: the target and the stop fields are those that the statement spells out. -/
theorem theEndOfTheDrainStartsTheWalk : Obligations.TheEndOfTheDrainStartsTheWalk := by
  unfold Obligations.TheEndOfTheDrainStartsTheWalk
  refine ⟨fun w c0 c older m newer f s hp hs hc0 hphase hempty hg hm ho hc hpos hseq hrem hwalk hnone => ?_,
    fun w s h => exec_drainEnd_of_not_end ?_, fun w s waited hw => ?_⟩
  · have hmay : drainMayEnd s w = true := by simp [drainMayEnd, hs, hc0, hphase, hempty]
    have htarget : c0.checkTarget (s.window w).gens = c := by
      rw [hg]
      exact checkTarget_eq hm hc
    have hstop : stopFieldsFor (s.window w) c.target = f := by
      rw [stopFieldsFor_at hg hm ho]
      obtain ⟨p, q, rem, np, nq⟩ := f
      simp only at hpos hseq hrem hwalk hnone
      subst hrem hpos hseq
      by_cases hz : 0 < recordSum (m :: newer)
      · obtain ⟨hnq, hnp⟩ := hwalk hz
        rw [if_pos hz, if_pos hz, hnp, hnq]
        rfl
      · obtain ⟨hnp, hnq⟩ := hnone (by omega)
        rw [if_neg hz, if_neg hz, hnp, hnq]
        rfl
    rw [exec_drainEnd_of_end hp hmay, endDrain_eq hc0 htarget hstop]
    refine ⟨fun hpause hz => ?_, fun hpause hz => ?_, fun hpause => ?_⟩
    · rw [if_neg (by simp [hpause]), if_pos hz]
      rfl
    · rw [if_neg (by simp [hpause]), if_neg (by omega)]
      rfl
    · rw [if_pos hpause, pauseTakesEffect_withContext]
      rfl
  · rcases h with h | h
    · simp [drainMayEnd, h]
    · simp [drainMayEnd, h]
  · have hwaits : ∀ o, waited o ↔ o.drains w = true := fun o => (hw o).trans (waits_iff w o).symm
    simp only [drainEmpty_iff, hwaits]

end Sys2Proof.Machine
end
